-- ==== Sys2Proof/Word.lean ====
section
/-! DEFINITION. The word types of the block (00_scope.md R10, 30_encoding.md R70) and the count of active lines
of a pin pattern (00_scope.md R8). -/
namespace Sys2Proof

/-- The 20-bit operation word (30_encoding.md R70). -/
abbrev OpWord := BitVec 20

/-- A 16-bit unsigned register: speeds, `duration`, both countdowns (00_scope.md R10). -/
abbrev Word16 := BitVec 16

/-- The key byte the console driver returns (30_encoding.md R72). -/
abbrev KeyByte := BitVec 8

/-- The levels of the six motor driver lines: bit 0 AH, 1 AL, 2 BH, 3 BL, 4 CH, 5 CL (30_encoding.md R79). -/
abbrev PinPattern := BitVec 6

/-- The 3-bit `phase` register; its legal values are 0 to 5 (10_state.md R31). -/
abbrev PhaseIndex := BitVec 3

/-- How many of the six lines a pattern activates (00_scope.md R8, ACTIVE_PER_STEP). -/
def activeLines (p : PinPattern) : Nat :=
  (p.getLsbD 0).toNat + (p.getLsbD 1).toNat + (p.getLsbD 2).toNat +
    (p.getLsbD 3).toNat + (p.getLsbD 4).toNat + (p.getLsbD 5).toNat

end Sys2Proof
end

