-- ==== Sys2Proof/Config.lean ====
section
/-! DEFINITION. The build-time parameters of the block as plain data (00_scope.md R9). Which configurations are
legal, and the two reference configurations of the spec, stand in Machine/Build.lean. -/
namespace Sys2Proof

/-- `COMM_TABLE[0..5]`: the six 6-bit output patterns (20_memory.md R51). -/
structure CommTable where
  entry0 : PinPattern
  entry1 : PinPattern
  entry2 : PinPattern
  entry3 : PinPattern
  entry4 : PinPattern
  entry5 : PinPattern
  deriving DecidableEq, Repr

/-- The six 8-bit key codes (30_encoding.md R78). -/
structure KeyCodes where
  esc   : KeyByte
  ok    : KeyByte
  up    : KeyByte
  down  : KeyByte
  start : KeyByte
  stop  : KeyByte
  deriving DecidableEq, Repr

/-- The configuration record `Config` (00_scope.md R9). The values of the first three are OPEN in the spec
(92_eei_decisions.md D7), so a claim about the block is a claim about every legal configuration. -/
structure Config where
  /-- `SPEED_MIN`: the floor of a nonzero requested speed. -/
  speedMin   : Word16
  /-- `SPEED_MAX`: the ceiling of the requested speed. -/
  speedMax   : Word16
  /-- `DEBOUNCE_MS`: the debounce window, in ticks. -/
  debounceMs : Word16
  /-- `COMM_TABLE`. -/
  commTable  : CommTable
  /-- The six key codes. -/
  keys       : KeyCodes
  deriving DecidableEq, Repr

end Sys2Proof
end

