-- ==== Sys2Proof/Machine/Build.lean ====
section
/-! DEFINITION. Which configurations are legal (00_scope.md R9), the spec's two reference configurations (R11), and
the one that `State.reset` carries. -/
namespace Sys2Proof

/-- "`1 <= SPEED_MIN <= SPEED_MAX`" and "`SPEED_MAX <= 10000`" (00_scope.md R9). -/
abbrev Config.speedBoundsLegal (c : Config) : Prop :=
  1 ≤ c.speedMin.toNat ∧ c.speedMin.toNat ≤ c.speedMax.toNat ∧ c.speedMax.toNat ≤ 10000

/-- "`1 <= DEBOUNCE_MS <= 65535`" (00_scope.md R9); the upper bound is the width of the field. -/
abbrev Config.windowLegal (c : Config) : Prop := 1 ≤ c.debounceMs.toNat

/-- The six entries in order (20_memory.md R51). -/
def CommTable.entries (t : CommTable) : List PinPattern :=
  [t.entry0, t.entry1, t.entry2, t.entry3, t.entry4, t.entry5]

/-- "each entry has exactly two bits set" (00_scope.md R9). -/
abbrev CommTable.legal (t : CommTable) : Prop := ∀ p ∈ t.entries, activeLines p = 2

/-- The set of the six key codes (30_encoding.md R78). -/
def KeyCodes.codes (k : KeyCodes) : List KeyByte := [k.esc, k.ok, k.up, k.down, k.start, k.stop]

/-- "pairwise distinct; none equal to 0x00 or 0xFF" (00_scope.md R9). -/
abbrev KeyCodes.legal (k : KeyCodes) : Prop := k.codes.Nodup ∧ 0x00#8 ∉ k.codes ∧ 0xFF#8 ∉ k.codes

/-- A legal configuration: every constraint of 00_scope.md R9. The two bounds that only the scenarios of the
source need (`SPEED_MIN <= 10`, `SPEED_MAX >= 50`) are no constraint. DEDUCED, safe (log entry 11). -/
abbrev Config.legal (c : Config) : Prop :=
  c.speedBoundsLegal ∧ c.windowLegal ∧ c.commTable.legal ∧ c.keys.legal

/-- The default commutation table (30_encoding.md R79). -/
def CommTable.default : CommTable := ⟨0x09#6, 0x21#6, 0x24#6, 0x06#6, 0x12#6, 0x18#6⟩

/-- The default key codes (30_encoding.md R78). -/
def KeyCodes.default : KeyCodes := ⟨0x04#8, 0x08#8, 0x10#8, 0x20#8, 0x40#8, 0x80#8⟩

/-- `CFG-REF` (00_scope.md R11). -/
def Config.cfgRef : Config := ⟨10#16, 3000#16, 200#16, CommTable.default, KeyCodes.default⟩

/-- `CFG-SMALL` (00_scope.md R11). -/
def Config.cfgSmall : Config := ⟨1#16, 100#16, 5#16, CommTable.default, KeyCodes.default⟩

/-- The configuration of `State.reset`. DESIGN CHOICE, unsafe (log entry 2): the spec leaves the values OPEN. -/
def Config.build : Config := Config.cfgRef

end Sys2Proof
end

