-- ==== Sys2Proof/Machine/State.lean ====
section
/-! DEFINITION. The state of the machine: the fourteen registers of 10_state.md R20, the parameters of a step that
the host's form has no other place for (the configuration and what is presented next, 00_scope.md R5), and the
response of the last operation (30_encoding.md R80); the reasons a step can stop; the state after reset (R41). -/
namespace Sys2Proof.Machine

/-- The values of the 3-bit `state` register: the five states of the Engine and the three encodings that no rule
writes (30_encoding.md R76). DESIGN CHOICE, safe (log entry 9): the unused encodings are kept, so that R117's
rule for them is modelled. -/
inductive EngineState
  | init
  | ready
  | rotating
  | stopped
  | reversing
  | unused5
  | unused6
  | unused7
  deriving DecidableEq, Repr

/-- The values of the two direction flags: "0 = left, 1 = right" (30_encoding.md R77). -/
inductive Direction
  | left
  | right
  deriving DecidableEq, Repr

/-- What an operation returns to its issuer (30_encoding.md R80). -/
inductive Response
  | none
  | event (k : KeyByte)
  | accepted
  deriving DecidableEq, Repr

/-- One thing presented to the block (00_scope.md R4, R5; 70_reset_and_hazards.md R195). -/
inductive Input
  /-- One agent presents one operation word. -/
  | op (w : OpWord)
  /-- The main agent presents a word and the tick agent a TICK at the same time (20_memory.md R60). -/
  | withTick (w : OpWord)
  /-- The full reset, an input and not an operation. -/
  | reset
  deriving DecidableEq, Repr

/-- The state of the machine. -/
structure State where
  /-- Which arm the next STEP runs (10_state.md R21). -/
  state : EngineState
  /-- Current speed (R22). -/
  rotation : Word16
  /-- Target speed (R23). -/
  requestedRotation : Word16
  /-- The speed a reversal restores (R24). -/
  savedRequestedRotation : Word16
  /-- Direction in effect (R25). -/
  direction : Direction
  /-- Direction asked for (R26). -/
  requestedDirection : Direction
  /-- User run/stop intent (R27). -/
  started : Bool
  /-- The sticky fault latch (R28). -/
  fault : Bool
  /-- The reversal latch (R29). -/
  revLatch : Bool
  /-- Milliseconds per phase step, the reload value of `phaseCnt` (R30). -/
  duration : Word16
  /-- Index into the commutation table (R31). -/
  phase : PhaseIndex
  /-- The phase-period counter (R32). -/
  phaseCnt : Word16
  /-- The shared debounce countdown (R33). -/
  debounceCnt : Word16
  /-- The levels last written to the six lines (R34). -/
  pins : PinPattern
  /-- The build-time configuration, which no step changes (70_reset_and_hazards.md R196); the model's own field
  (log entry 1). -/
  cfg : Config
  /-- The response of the last operation (30_encoding.md R80); the model's own field (log entry 7). -/
  resp : Response
  /-- What the agents and the environment present, oldest first (20_memory.md R59); the model's own field (log
  entry 3). -/
  inputs : List Input
  deriving DecidableEq, Repr

/-- Why the machine stops with a fault. -/
inductive Fault
  /-- Raised by `armPeriod` where the period at speed 0 would be computed, the one undefined computation of the spec
  (93_implementation_defined.md U1). Safe: the spec asks for a fault, and no operation reaches it. -/
  | periodAtZero
  deriving DecidableEq, Repr

/-- Why the machine has no meaning for a step. -/
inductive Refusal
  /-- Raised by an arm of `exec` whose instruction has no meaning yet. Safe: nothing can be proved of it. -/
  | notModelled (mnemonic : String)
  /-- Raised by `step` where the configuration breaks a constraint of 00_scope.md R9, which "is `refuse`d"
  (93_implementation_defined.md U9 to U11). Safe: such a block does not exist. -/
  | illegalConfig
  deriving DecidableEq, Repr

/-- The state a full reset leaves in a block built with configuration `c` (10_state.md R41, 70_reset_and_hazards.md
R195): `state` Init and every other register 0. -/
def State.resetFor (c : Config) : State where
  state := .init
  rotation := 0#16
  requestedRotation := 0#16
  savedRequestedRotation := 0#16
  direction := .left
  requestedDirection := .left
  started := false
  fault := false
  revLatch := false
  duration := 0#16
  phase := 0#3
  phaseCnt := 0#16
  debounceCnt := 0#16
  pins := 0#6
  cfg := c
  resp := .none
  inputs := []

/-- The machine right after reset, with the configuration of log entry 2 and nothing presented (log entry 3). -/
def State.reset : State := State.resetFor Config.build

end Sys2Proof.Machine
end

