-- ==== Sys2Proof/Machine/Flags.lean ====
section
/-! DEFINITION. The flags: the tests the Engine makes on them, and the named updates of `started`, `fault`,
`rev_latch` and the two directions (10_state.md R25 to R29). -/
namespace Sys2Proof.Machine

/-- The run condition: `requested_rotation > 0 and started = 1 and fault = 0` (42_engine.md R119). -/
abbrev runCondition (s : State) : Prop := s.requestedRotation ≠ 0#16 ∧ s.started = true ∧ s.fault = false

/-- The stop test of the Rotating arm: `started = 0 or fault = 1` (42_engine.md R120). -/
abbrev stopTest (s : State) : Prop := s.started = false ∨ s.fault = true

/-- `requested_direction != direction` (42_engine.md R119). -/
abbrev directionMismatch (s : State) : Prop := s.requestedDirection ≠ s.direction

/-- A new reversal request: the directions differ and no reversal is in progress (42_engine.md R120). -/
abbrev newReversal (s : State) : Prop := directionMismatch s ∧ s.revLatch = false

/-- The capture, made once: `rev_latch` guards `saved_requested_rotation` (42_engine.md R119, R120). -/
def captureReversal (s : State) : State :=
  if s.revLatch = false then { s with savedRequestedRotation := s.requestedRotation, revLatch := true } else s

/-- The user's intent to run (44_host_commands.md R156). -/
def setStarted (s : State) : State := { s with started := true }

/-- The requested direction (44_host_commands.md R159). -/
def requestDirection (d : Direction) (s : State) : State := { s with requestedDirection := d }

end Sys2Proof.Machine
end

