-- ==== Sys2Proof/Machine/Operands.lean ====
section
/-! DEFINITION. What the operands of FSAMPLE, KEYIN, SETSPD and SETDIR stand for (30_encoding.md R72): the direction,
the clamp of a speed, the classification of a key byte. -/
namespace Sys2Proof.Machine

/-- SETDIR's bit: "0 = left, 1 = right" (30_encoding.md R72, R77). -/
def Direction.ofBit : Bool → Direction
  | false => .left
  | true => .right

/-- The bit of a direction flag (30_encoding.md R77). -/
def Direction.bit : Direction → Bool
  | .left => false
  | .right => true

/-- The clamp of SETSPD: 0 stays 0, any other value is brought into `SPEED_MIN..SPEED_MAX` as
`min(max(v, SPEED_MIN), SPEED_MAX)` (44_host_commands.md R158). -/
def clampSpeed (c : Config) (v : Word16) : Word16 :=
  if v = 0#16 then 0#16
  else
    let raised := if v < c.speedMin then c.speedMin else v
    if c.speedMax < raised then c.speedMax else raised

/-- A raw event that reaches the Debounce Gate (43_debounce_gate.md R140). -/
inductive RawEvent
  | key (k : KeyByte)
  | fault
  deriving DecidableEq, Repr

/-- Classify(k): one of the six key codes is an event, every other byte is none (43_debounce_gate.md R141). -/
def classify (keys : KeyCodes) (k : KeyByte) : Option RawEvent :=
  if k ∈ keys.codes then some (.key k) else none

end Sys2Proof.Machine
end

