-- ==== Sys2Proof/Machine/Ops.lean ====
section
/-! DEFINITION. The micro-operations of the block (30_encoding.md R83) and the named updates the meanings share:
the countdowns, ADVANCE, ARM, OUTPUT, Period, SetRotation, ACCEPT, the entry of FaultTrap and the recovery from it.
The block has no memory (20_memory.md R50), so none is read or written. -/
namespace Sys2Proof.Machine

/-- `resp <- r` (30_encoding.md R80). -/
def respond (r : Response) (s : State) : State := { s with resp := r }

/-! ## Countdowns and phase -/

/-- One saturating decrement: "each saturating at zero (never below)" (40_tick_service.md R91). -/
def countDown (c : Word16) : Word16 := if c = 0#16 then 0#16 else c - 1#16

/-- Both countdowns of one TICK (40_tick_service.md R90). -/
def countDownTimers (s : State) : State :=
  { s with debounceCnt := countDown s.debounceCnt, phaseCnt := countDown s.phaseCnt }

/-- The next phase index: `(phase + 1) mod 6` to the right, `(phase + 5) mod 6` to the left
(41_commutation_scheduler.md R100), computed without wrap-around at 3 bits. -/
def nextPhase (d : Direction) (ph : PhaseIndex) : PhaseIndex :=
  match d with
  | .right => BitVec.ofNat 3 ((ph.toNat + 1) % 6)
  | .left => BitVec.ofNat 3 ((ph.toNat + 5) % 6)

/-- ADVANCE(d) (41_commutation_scheduler.md R100). -/
def advance (d : Direction) (s : State) : State := { s with phase := nextPhase d s.phase }

/-- `phase_cnt <- duration`, the reload at expiry (40_tick_service.md R90). -/
def reloadPhaseCnt (s : State) : State := { s with phaseCnt := s.duration }

/-- The expiry condition, read after the decrement: `phase_cnt = 0 and rotation > 0` (40_tick_service.md R92). -/
abbrev phaseExpired (s : State) : Prop := s.phaseCnt = 0#16 ∧ s.rotation ≠ 0#16

/-! ## Output -/

/-- `COMM_TABLE[ph]`, and none for an index outside the table (20_memory.md R51, R55). -/
def tableEntry (t : CommTable) (ph : PhaseIndex) : Option PinPattern := t.entries[ph.toNat]?

/-- OUTPUT(ph, rot): the all-zero pattern at speed 0 and for an index above 5, else the table entry
(41_commutation_scheduler.md R102, R105). -/
def output (t : CommTable) (ph : PhaseIndex) (rot : Word16) : PinPattern :=
  if rot = 0#16 then 0#6
  else
    match tableEntry t ph with
    | some p => p
    | none => 0#6

/-- The pin write of OUT, all six bits at once (41_commutation_scheduler.md R103). -/
def writePins (p : PinPattern) (s : State) : State := { s with pins := p }

/-! ## Speed and period -/

/-- Period(r) = 60000 div (r * 6), the product formed without wrap-around; it has no value at 0
(42_engine.md R115, R127; 93_implementation_defined.md U1; log entry 10). -/
def period (r : Word16) : Option Word16 :=
  if r = 0#16 then none else some (BitVec.ofNat 16 (60000 / (r.toNat * 6)))

/-- ARM(p): the reload value only; a count in progress is not restarted (41_commutation_scheduler.md R101). -/
def arm (p : Word16) (s : State) : State := { s with duration := p }

/-- ARM(Period(r)): the fault is the undefined period at 0, which no caller reaches (42_engine.md R126). -/
def armPeriod (r : Word16) (s : State) : Host.Outcome State Fault Refusal :=
  match period r with
  | some p => .next (arm p s)
  | none => .fault .periodAtZero

/-- `rotation <- v`. -/
def writeRotation (v : Word16) (s : State) : State := { s with rotation := v }

/-- SetRotation(v): the speed, and with a nonzero speed the reload value (42_engine.md R116). -/
def setRotation (v : Word16) (s : State) : Host.Outcome State Fault Refusal :=
  if v = 0#16 then .next (writeRotation v s) else armPeriod v (writeRotation v s)

/-- `requested_rotation <- v`. -/
def writeRequested (v : Word16) (s : State) : State := { s with requestedRotation := v }

/-- `state <- e`. -/
def goTo (e : EngineState) (s : State) : State := { s with state := e }

/-! ## The Debounce Gate and the trap -/

/-- ACCEPT(e): the one shared gate, for keys and for the fault (43_debounce_gate.md R140, R145). -/
def accept (e : RawEvent) (s : State) : Option RawEvent × State :=
  if s.debounceCnt = 0#16 then (some e, { s with debounceCnt := s.cfg.debounceMs }) else (none, s)

/-- FaultTrap entry, after ACCEPT has reloaded the window: the latch is set and the Engine goes to Stopped; nothing
is saved and nothing else changes (60_exceptions.md R178). -/
def takeFaultTrap (s : State) : State := { s with fault := true, state := .stopped }

/-- The recovery from the trap, STOP's writes: nothing is restored, the latch is cleared by "an explicit user Stop
action, never automatic", and the run intent with it (60_exceptions.md R179, 44_host_commands.md R157). -/
def acknowledgeStop (s : State) : State := { s with started := false, fault := false }

/-! ## Engine updates that an arm makes as a whole -/

/-- The field resets of the Init arm; `phase_cnt`, `debounce_cnt` and `pins` are not touched (42_engine.md R118). -/
def resetEngine (s : State) : State :=
  { s with
    phase := 0#3, direction := .left, rotation := 0#16, requestedRotation := 0#16, started := false, fault := false,
    requestedDirection := .left, savedRequestedRotation := 0#16, revLatch := false, duration := 0#16 }

/-- The field writes of the Stopped arm (42_engine.md R121). -/
def clearDrive (s : State) : State := { s with started := false, requestedRotation := 0#16, rotation := 0#16 }

/-- The field writes of the Reversing commit (42_engine.md R122). -/
def commitReversal (s : State) : State :=
  { s with
    direction := s.requestedDirection, requestedRotation := s.savedRequestedRotation, phase := 0#3,
    started := true, revLatch := false }

/-- A word with a reserved opcode: no register changes, the response is none (30_encoding.md R74,
44_host_commands.md R160). -/
def reservedNoOp (s : State) : State := respond .none s

end Sys2Proof.Machine
end

