-- ==== Sys2Proof/Machine/Debounce.lean ====
section
/-! DEFINITION. FSAMPLE and KEYIN, the two readers of the Debounce Gate (43_debounce_gate.md). -/
namespace Sys2Proof.Machine

/-- FSAMPLE b: an asserted input goes to the gate, and an accepted one takes the trap in the same operation
(43_debounce_gate.md R143). -/
def execFsample (b : Bool) (s : State) : Host.Outcome State Fault Refusal :=
  if b then
    match accept .fault s with
    | (some _, s') => .next (respond .accepted (takeFaultTrap s'))
    | (none, s') => .next (respond .none s')
  else .next (respond .none s)

/-- The response to an accepted raw event (30_encoding.md R80). -/
def eventResponse : RawEvent → Response
  | .key k => .event k
  | .fault => .accepted

/-- KEYIN k: classification first, then the gate (43_debounce_gate.md R142). -/
def execKeyin (k : KeyByte) (s : State) : Host.Outcome State Fault Refusal :=
  match classify s.cfg.keys k with
  | none => .next (respond .none s)
  | some e =>
    match accept e s with
    | (some e', s') => .next (respond (eventResponse e') s')
    | (none, s') => .next (respond .none s')

end Sys2Proof.Machine
end

