-- ==== Sys2Proof/Machine/Engine.lean ====
section
/-! DEFINITION. STEP, with one definition per state arm (42_engine.md). -/
namespace Sys2Proof.Machine

/-- The Init arm (42_engine.md R118). -/
def armInit (s : State) : Host.Outcome State Fault Refusal := .next (goTo .ready (resetEngine s))

/-- The Ready arm: direction mismatch, then the run condition with the seed, then idle (42_engine.md R119). -/
def armReady (s : State) : Host.Outcome State Fault Refusal :=
  if directionMismatch s then .next (goTo .reversing (captureReversal s))
  else if runCondition s then
    if s.rotation = 0#16 then setRotation 1#16 s else armPeriod s.rotation (goTo .rotating s)
  else .next (writeRotation 0#16 s)

/-- The Rotating arm: stop branch, then new reversal, then the ramp (42_engine.md R120). -/
def armRotating (s : State) : Host.Outcome State Fault Refusal :=
  if stopTest s then
    if s.rotation = 0#16 then .next (goTo .stopped s) else setRotation (s.rotation - 1#16) s
  else if newReversal s then .next (goTo .reversing (captureReversal s))
  else if s.rotation < s.requestedRotation then setRotation (s.rotation + 1#16) (goTo .ready s)
  else if s.requestedRotation < s.rotation then setRotation (s.rotation - 1#16) (goTo .ready s)
  else .next s

/-- The Stopped arm (42_engine.md R121). -/
def armStopped (s : State) : Host.Outcome State Fault Refusal := .next (goTo .ready (clearDrive s))

/-- The Reversing arm: the zero target while the motor turns, else the commit (42_engine.md R122). -/
def armReversing (s : State) : Host.Outcome State Fault Refusal :=
  if s.rotation = 0#16 then .next (goTo .rotating (commitReversal s))
  else .next (goTo .rotating (writeRequested 0#16 s))

/-- Exactly one arm, selected by `state`; the unused encodings run the Init arm (42_engine.md R117). -/
def runArm (s : State) : Host.Outcome State Fault Refusal :=
  match s.state with
  | .init => armInit s
  | .ready => armReady s
  | .rotating => armRotating s
  | .stopped => armStopped s
  | .reversing => armReversing s
  | .unused5 => armInit s
  | .unused6 => armInit s
  | .unused7 => armInit s

/-- STEP: one control-loop pass of the Engine (42_engine.md R117). -/
def execStep (s : State) : Host.Outcome State Fault Refusal := runArm (respond .none s)

end Sys2Proof.Machine
end

