-- ==== Sys2Proof/Machine/HostCommands.lean ====
section
/-! DEFINITION. The commands by which the menu drives the Engine: NOP, START, STOP, SETSPD, SETDIR
(44_host_commands.md). None of them writes `state`, `rotation` or `direction` (R162). -/
namespace Sys2Proof.Machine

/-- NOP (44_host_commands.md R155). -/
def execNop (s : State) : Host.Outcome State Fault Refusal := .next (respond .none s)

/-- START (44_host_commands.md R156). -/
def execStart (s : State) : Host.Outcome State Fault Refusal := .next (respond .none (setStarted s))

/-- STOP (44_host_commands.md R157). -/
def execStop (s : State) : Host.Outcome State Fault Refusal := .next (respond .none (acknowledgeStop s))

/-- SETSPD v (44_host_commands.md R158). -/
def execSetspd (v : Word16) (s : State) : Host.Outcome State Fault Refusal :=
  .next (respond .none (writeRequested (clampSpeed s.cfg v) s))

/-- SETDIR b (44_host_commands.md R159). -/
def execSetdir (b : Bool) (s : State) : Host.Outcome State Fault Refusal :=
  .next (respond .none (requestDirection (Direction.ofBit b) s))

end Sys2Proof.Machine
end

