-- ==== Sys2Proof/Machine/Scheduler.lean ====
section
/-! DEFINITION. OUT (41_commutation_scheduler.md). -/
namespace Sys2Proof.Machine

/-- OUT: `pins <- OUTPUT(phase, rotation)` (41_commutation_scheduler.md R103). -/
def execOut (s : State) : Host.Outcome State Fault Refusal :=
  .next (respond .none (writePins (output s.cfg.commTable s.phase s.rotation) s))

end Sys2Proof.Machine
end

