-- ==== Sys2Proof/Machine/Tick.lean ====
section
/-! DEFINITION. TICK (40_tick_service.md). -/
namespace Sys2Proof.Machine

/-- The expiry action of a TICK whose counter has run out while the motor turns (40_tick_service.md R90, R92). -/
def expirePhase (s : State) : State :=
  if phaseExpired s then reloadPhaseCnt (advance s.direction s) else s

/-- TICK: both countdowns, then the expiry (40_tick_service.md R90). -/
def execTick (s : State) : Host.Outcome State Fault Refusal :=
  .next (respond .none (expirePhase (countDownTimers s)))

end Sys2Proof.Machine
end

