-- ==== Sys2Proof/Syntax.lean ====
section
/-! DEFINITION. The operations of CSEQ-OPS version 1 (30_encoding.md R73), one constructor per row of the opcode
table. An operand has exactly the width of its field (R72), so no ill-sized operand can be written. -/
namespace Sys2Proof

/-- One operation: the unit an agent issues (00_scope.md R5). -/
inductive Instr
  /-- NOP, format Z (44_host_commands.md R155). -/
  | nop
  /-- TICK, format Z: one millisecond has passed (40_tick_service.md R90). -/
  | tick
  /-- STEP, format Z: one control-loop pass of the Engine (42_engine.md R117). -/
  | step
  /-- OUT, format Z: write the pattern to the lines (41_commutation_scheduler.md R103). -/
  | out
  /-- FSAMPLE b, format B: `b` says that the fault input is observed asserted (43_debounce_gate.md R143). -/
  | fsample (b : Bool)
  /-- KEYIN k, format K: the key byte of this pass (43_debounce_gate.md R142). -/
  | keyin (k : KeyByte)
  /-- START, format Z (44_host_commands.md R156). -/
  | start
  /-- STOP, format Z (44_host_commands.md R157). -/
  | stop
  /-- SETSPD v, format W: the speed the menu commits, before the clamp (44_host_commands.md R158). -/
  | setspd (v : Word16)
  /-- SETDIR b, format B: 0 left, 1 right (44_host_commands.md R159). -/
  | setdir (b : Bool)
  deriving DecidableEq, Repr

end Sys2Proof
end

