-- ==== Sys2Proof/Machine/Dispatch.lean ====
section
/-! DEFINITION. One arm per operation of the opcode map (30_encoding.md R73). -/
namespace Sys2Proof.Machine

/-- The meaning of an operation, one atomic state change (20_memory.md R59). -/
def exec (i : Instr) (s : State) : Host.Outcome State Fault Refusal :=
  match i with
  | .nop => Sys2Proof.Machine.execNop s
  | .tick => Sys2Proof.Machine.execTick s
  | .step => Sys2Proof.Machine.execStep s
  | .out => Sys2Proof.Machine.execOut s
  | .fsample b => Sys2Proof.Machine.execFsample b s
  | .keyin k => Sys2Proof.Machine.execKeyin k s
  | .start => Sys2Proof.Machine.execStart s
  | .stop => Sys2Proof.Machine.execStop s
  | .setspd v => Sys2Proof.Machine.execSetspd v s
  | .setdir b => Sys2Proof.Machine.execSetdir b s

end Sys2Proof.Machine
end

