-- ==== Sys2Proof/WellFormed.lean ====
section
/-! DEFINITION. Formats and operand ranges (30_encoding.md R71, R72), and the well-formedness of an operation and of
a script line (R81, R82). Every term of `Instr` is well-formed, because its operand has the width of its field;
a script line holds written numbers, and there the ranges of R81 are checks that can fail. -/
namespace Sys2Proof

/-- The four formats (30_encoding.md R71). -/
inductive Format
  | z
  | b
  | k
  | w
  deriving DecidableEq, Repr

/-- How many low bits of `arg` a format uses (30_encoding.md R71). -/
def Format.operandBits : Format → Nat
  | .z => 0
  | .b => 1
  | .k => 8
  | .w => 16

/-- The format of each operation (30_encoding.md R71, R73). -/
def Instr.format : Instr → Format
  | .nop => .z
  | .tick => .z
  | .step => .z
  | .out => .z
  | .fsample _ => .b
  | .keyin _ => .k
  | .start => .z
  | .stop => .z
  | .setspd _ => .w
  | .setdir _ => .b

/-- The operand as a number, 0 where there is none (30_encoding.md R72, R73). -/
def Instr.operand : Instr → Nat
  | .nop => 0
  | .tick => 0
  | .step => 0
  | .out => 0
  | .fsample b => b.toNat
  | .keyin k => k.toNat
  | .start => 0
  | .stop => 0
  | .setspd v => v.toNat
  | .setdir b => b.toNat

/-- The operand fits the bits its format uses (30_encoding.md R71, R72). -/
abbrev Instr.wellFormed (i : Instr) : Prop := i.operand < 2 ^ i.format.operandBits

/-- One written operation of a script: a mnemonic and, where it has one, a number (30_encoding.md R81). -/
inductive ScriptOp
  | nop
  | tick
  | step
  | out
  | fsample (b : Nat)
  | keyin (k : Nat)
  | start
  | stop
  | setspd (v : Nat)
  | setdir (b : Nat)
  deriving DecidableEq, Repr

/-- One script line: an operation or a pseudo-operation (30_encoding.md R81, R82). -/
inductive ScriptLine
  | op (o : ScriptOp)
  /-- `TICKS n`. -/
  | ticks (n : Nat)
  /-- `STEPS n`. -/
  | steps (n : Nat)
  /-- `PASS b, k` or `PASS b, k, cmd`. -/
  | pass (b k : Nat) (cmd : Option ScriptOp)
  deriving DecidableEq, Repr

/-- "`b` is 0 or 1, `k` is 0 to 255, `v` is 0 to 65535" (30_encoding.md R81). -/
def ScriptOp.wellFormed : ScriptOp → Bool
  | .nop => true
  | .tick => true
  | .step => true
  | .out => true
  | .fsample b => decide (b ≤ 1)
  | .keyin k => decide (k ≤ 255)
  | .start => true
  | .stop => true
  | .setspd v => decide (v ≤ 65535)
  | .setdir b => decide (b ≤ 1)

/-- The host commands a PASS may carry: "START, STOP, SETSPD, SETDIR" (30_encoding.md R82). -/
def ScriptOp.isHostCommand : ScriptOp → Bool
  | .nop => false
  | .tick => false
  | .step => false
  | .out => false
  | .fsample _ => false
  | .keyin _ => false
  | .start => true
  | .stop => true
  | .setspd _ => true
  | .setdir _ => true

/-- A script line is well-formed when its numbers are in range and a PASS carries a host command or none
(30_encoding.md R81, R82). -/
def ScriptLine.wellFormed : ScriptLine → Bool
  | .op o => o.wellFormed
  | .ticks _ => true
  | .steps _ => true
  | .pass b k none => decide (b ≤ 1) && decide (k ≤ 255)
  | .pass b k (some cmd) => decide (b ≤ 1) && decide (k ≤ 255) && cmd.isHostCommand && cmd.wellFormed

end Sys2Proof
end

