-- ==== Sys2Proof/Decode.lean ====
section
/-! DEFINITION. The decoder, total on every 20-bit word, which rejects a reserved opcode by name; the encoder; the
opcode table as rows of match and mask (30_encoding.md R70 to R75). -/
namespace Sys2Proof

/-- What the decoder reads from a word: an operation, or a reserved opcode by its number (30_encoding.md R73, R74;
log entry 8). -/
inductive Decoded
  | op (i : Instr)
  | reserved (opcode : BitVec 4)
  deriving DecidableEq, Repr

/-- `op = w[19:16]` (30_encoding.md R70). -/
def opcodeOf (w : OpWord) : BitVec 4 := w.extractLsb' 16 4

/-- `b = w[0]` (30_encoding.md R72). -/
def operandB (w : OpWord) : Bool := w.getLsbD 0

/-- `k = w[7:0]` (30_encoding.md R72). -/
def operandK (w : OpWord) : KeyByte := w.extractLsb' 0 8

/-- `v = w[15:0]` (30_encoding.md R72). -/
def operandV (w : OpWord) : Word16 := w.extractLsb' 0 16

/-- The opcode map (30_encoding.md R73); bits a format does not use are not looked at (R75). -/
def decode (w : OpWord) : Decoded :=
  match (opcodeOf w).toNat with
  | 0 => .op .nop
  | 1 => .op .tick
  | 2 => .op .step
  | 3 => .op .out
  | 4 => .op (.fsample (operandB w))
  | 5 => .op (.keyin (operandK w))
  | 6 => .op .start
  | 7 => .op .stop
  | 8 => .op (.setspd (operandV w))
  | 9 => .op (.setdir (operandB w))
  | _ => .reserved (opcodeOf w)

/-- The opcode number of an operation (30_encoding.md R73). -/
def Instr.opcode : Instr → BitVec 4
  | .nop => 0x0#4
  | .tick => 0x1#4
  | .step => 0x2#4
  | .out => 0x3#4
  | .fsample _ => 0x4#4
  | .keyin _ => 0x5#4
  | .start => 0x6#4
  | .stop => 0x7#4
  | .setspd _ => 0x8#4
  | .setdir _ => 0x9#4

/-- The operand field of the canonical encoding: the operand in the low bits, the unused bits zero
(30_encoding.md R72, R73, R75). -/
def Instr.arg : Instr → BitVec 16
  | .nop => 0#16
  | .tick => 0#16
  | .step => 0#16
  | .out => 0#16
  | .fsample b => (BitVec.ofBool b).setWidth 16
  | .keyin k => k.setWidth 16
  | .start => 0#16
  | .stop => 0#16
  | .setspd v => v
  | .setdir b => (BitVec.ofBool b).setWidth 16

/-- The canonical word of an operation: `op` in bits 19:16, `arg` in bits 15:0 (30_encoding.md R70). -/
def encode (i : Instr) : OpWord := i.opcode ++ i.arg

/-- The bits of `arg` that a format ignores (30_encoding.md R71, R75). -/
def Format.ignoredBits : Format → BitVec 16
  | .z => 0xFFFF#16
  | .b => 0xFFFE#16
  | .k => 0xFF00#16
  | .w => 0x0000#16

/-- A row of the opcode table: "a word `w` selects the row for which `w and mask = match`" (30_encoding.md R73). -/
structure OpcodeRow where
  mnemonic  : String
  format    : Format
  wordMatch : OpWord
  wordMask  : OpWord
  deriving DecidableEq, Repr

/-- The ten rows of the opcode map (30_encoding.md R73). -/
def opcodeTable : List OpcodeRow :=
  [ ⟨"NOP",     .z, 0x00000#20, 0xF0000#20⟩,
    ⟨"TICK",    .z, 0x10000#20, 0xF0000#20⟩,
    ⟨"STEP",    .z, 0x20000#20, 0xF0000#20⟩,
    ⟨"OUT",     .z, 0x30000#20, 0xF0000#20⟩,
    ⟨"FSAMPLE", .b, 0x40000#20, 0xF0000#20⟩,
    ⟨"KEYIN",   .k, 0x50000#20, 0xF0000#20⟩,
    ⟨"START",   .z, 0x60000#20, 0xF0000#20⟩,
    ⟨"STOP",    .z, 0x70000#20, 0xF0000#20⟩,
    ⟨"SETSPD",  .w, 0x80000#20, 0xF0000#20⟩,
    ⟨"SETDIR",  .b, 0x90000#20, 0xF0000#20⟩ ]

/-- The mnemonic of an operation (30_encoding.md R73). -/
def Instr.mnemonic : Instr → String
  | .nop => "NOP"
  | .tick => "TICK"
  | .step => "STEP"
  | .out => "OUT"
  | .fsample _ => "FSAMPLE"
  | .keyin _ => "KEYIN"
  | .start => "START"
  | .stop => "STOP"
  | .setspd _ => "SETSPD"
  | .setdir _ => "SETDIR"

/-- The operation the decoder reads from the bits `w` of a table row, bit 0 the least significant (30_encoding.md
R70). A number with a bit above bit 19 is no operation word and gives none. DESIGN CHOICE, safe (log entry 12). -/
def decodeTableWord (_nbits w : Nat) : Option Instr :=
  if w < 2 ^ 20 then
    match decode (BitVec.ofNat 20 w) with
    | .op i => some i
    | .reserved _ => none
  else none

end Sys2Proof
end

