-- ==== Sys2Proof/Machine/Fetch.lean ====
section
/-! DEFINITION. What a step takes from the stream of what is presented to the block, and the placing of a word there.
The block fetches no instructions: "operations arrive from the two agents and are not stored" (20_memory.md R64). -/
namespace Sys2Proof.Machine

/-- What the next step does, with the state it does it in. -/
inductive Fetched
  /-- The configuration breaks a constraint of 00_scope.md R9. -/
  | illegal
  /-- Nothing is presented. -/
  | idle (s : State)
  /-- One operation. -/
  | run (i : Instr) (s : State)
  /-- A word with a reserved opcode. -/
  | reserved (s : State)
  /-- The full reset. -/
  | reset (s : State)
  deriving DecidableEq, Repr

/-- The first presented thing is taken off the stream. A TICK presented together with a word of the main agent is
applied first and leaves the word presented (20_memory.md R60). A reset keeps the configuration
(70_reset_and_hazards.md R196) and what is presented after it. With nothing presented, nothing changes. DEDUCED and
DESIGN CHOICE, safe (log entries 3 to 6). -/
def fetch (s : State) : Fetched :=
  if s.cfg.legal then
    match s.inputs with
    | [] => .idle s
    | .op w :: rest =>
      match decode w with
      | .op i => .run i { s with inputs := rest }
      | .reserved _ => .reserved { s with inputs := rest }
    | .withTick w :: rest => .run .tick { s with inputs := .op w :: rest }
    | .reset :: rest => .reset { State.resetFor s.cfg with inputs := rest }
  else .illegal

/-- The state with the word of number `w` presented next, before everything already presented. A number with a bit
above bit 19 is no operation word (30_encoding.md R70) and cannot be presented (log entry 12). -/
def presentWord (w : Nat) (s : State) : State :=
  if w < 2 ^ 20 then { s with inputs := .op (BitVec.ofNat 20 w) :: s.inputs } else s

end Sys2Proof.Machine
end

