-- ==== Sys2Proof/Machine/Step.lean ====
section
/-! DEFINITION. One step of the machine: one presented operation, whole (20_memory.md R56, R59). -/
namespace Sys2Proof.Machine

/-- One step. -/
def step (s : State) : Host.Outcome State Fault Refusal :=
  match fetch s with
  | .illegal => .refused .illegalConfig
  | .idle s' => .next s'
  | .run i s' => exec i s'
  | .reserved s' => .next (reservedNoOp s')
  | .reset s' => .next s'

/-- `s` with the word of a table row presented next (log entry 3 says how a program comes to run). -/
def State.withFetchWord (s : State) (_nbits w : Nat) : State := presentWord w s

end Sys2Proof.Machine
end

