-- ==== Sys2Proof/Machine/Script.lean ====
section
/-! DEFINITION. The script reader: the text of a line, the words of a written operation and the expansion of the
pseudo-operations TICKS, STEPS and PASS. It is no part of the block ("expanded by the script reader, not by the block",
30_encoding.md R82). -/
namespace Sys2Proof.Machine

/-- The operation a written line stands for; a line with a number out of range stands for none (30_encoding.md
R81). DESIGN CHOICE, safe (log entry 15). -/
def scriptInstr (o : ScriptOp) : Option Instr :=
  if o.wellFormed then
    match o with
    | .nop => some .nop
    | .tick => some .tick
    | .step => some .step
    | .out => some .out
    | .fsample b => some (.fsample (decide (b = 1)))
    | .keyin k => some (.keyin (BitVec.ofNat 8 k))
    | .start => some .start
    | .stop => some .stop
    | .setspd v => some (.setspd (BitVec.ofNat 16 v))
    | .setdir b => some (.setdir (decide (b = 1)))
  else none

/-- The operations a script line expands to (30_encoding.md R81, R82); none for an ill-formed line. -/
def scriptOps (l : ScriptLine) : Option (List ScriptOp) :=
  if l.wellFormed then
    match l with
    | .op o => some [o]
    | .ticks n => some (List.replicate n .tick)
    | .steps n => some (List.replicate n .step)
    | .pass b k none => some [.fsample b, .keyin k, .step, .out]
    | .pass b k (some cmd) => some [.fsample b, .keyin k, cmd, .step, .out]
  else none

/-- The operation words of a script line (30_encoding.md R81, R82). -/
def scriptWords (l : ScriptLine) : Option (List OpWord) :=
  match scriptOps l with
  | some os => os.mapM fun o => (scriptInstr o).map encode
  | none => none

/-! ## The text of a line -/

/-- The written words of a line: blanks separate, and a comma is a word of its own. `word` is what has been read of the
word in progress. -/
def scanWords : List Char → List Char → List (List Char)
  | [], word => if word = [] then [] else [word]
  | c :: rest, word =>
    let done := if word = [] then [] else [word]
    if c = ' ' ∨ c = '\t' then done ++ scanWords rest []
    else if c = ',' then done ++ [','] :: scanWords rest []
    else scanWords rest (word ++ [c])

/-- The value of a digit in a base of at most 16; upper and lower case letters are both read. -/
def digitValue (base : Nat) (c : Char) : Option Nat :=
  let v :=
    if '0' ≤ c ∧ c ≤ '9' then c.toNat - 48
    else if 'A' ≤ c ∧ c ≤ 'F' then c.toNat - 55
    else if 'a' ≤ c ∧ c ≤ 'f' then c.toNat - 87
    else base
  if v < base then some v else none

/-- A run of digits, the most significant first, after a part already read. -/
def readDigits (base : Nat) : List Char → Nat → Option Nat
  | [], n => some n
  | c :: rest, n =>
    match digitValue base c with
    | some v => readDigits base rest (n * base + v)
    | none => none

/-- "the operand in decimal or `0x` hexadecimal" (30_encoding.md R81). -/
def readNumber : List Char → Option Nat
  | [] => none
  | '0' :: 'x' :: [] => none
  | '0' :: 'x' :: digits => readDigits 16 digits 0
  | digits => readDigits 10 digits 0

/-- `MNEMONIC` or `MNEMONIC operand`, the mnemonic in upper case (30_encoding.md R81). -/
def readOp : List (List Char) → Option ScriptOp
  | [m] =>
    if m = ['N', 'O', 'P'] then some .nop
    else if m = ['T', 'I', 'C', 'K'] then some .tick
    else if m = ['S', 'T', 'E', 'P'] then some .step
    else if m = ['O', 'U', 'T'] then some .out
    else if m = ['S', 'T', 'A', 'R', 'T'] then some .start
    else if m = ['S', 'T', 'O', 'P'] then some .stop
    else none
  | [m, n] =>
    if m = ['F', 'S', 'A', 'M', 'P', 'L', 'E'] then (readNumber n).map .fsample
    else if m = ['K', 'E', 'Y', 'I', 'N'] then (readNumber n).map .keyin
    else if m = ['S', 'E', 'T', 'S', 'P', 'D'] then (readNumber n).map .setspd
    else if m = ['S', 'E', 'T', 'D', 'I', 'R'] then (readNumber n).map .setdir
    else none
  | _ => none

/-- `PASS b, k` and `PASS b, k, cmd`, what follows `PASS` (30_encoding.md R82). -/
def readPass : List (List Char) → Option ScriptLine
  | [b, [','], k] =>
    match readNumber b, readNumber k with
    | some b', some k' => some (.pass b' k' none)
    | _, _ => none
  | b :: [','] :: k :: [','] :: cmd =>
    match readNumber b, readNumber k, readOp cmd with
    | some b', some k', some c => some (.pass b' k' (some c))
    | _, _, _ => none
  | _ => none

/-- The line a text stands for, with "a comment after `;`" (30_encoding.md R81, R82). -/
def readLine (text : List Char) : Option ScriptLine :=
  match scanWords (text.takeWhile fun c => c ≠ ';') [] with
  | m :: operands =>
    if m = ['P', 'A', 'S', 'S'] then readPass operands
    else
      match m, operands with
      | ['T', 'I', 'C', 'K', 'S'], [n] => (readNumber n).map .ticks
      | ['S', 'T', 'E', 'P', 'S'], [n] => (readNumber n).map .steps
      | _, _ => (readOp (m :: operands)).map .op
  | [] => none

/-- The operation words of the text of a line. -/
def assemble (text : List Char) : Option (List OpWord) := (readLine text).bind scriptWords

end Sys2Proof.Machine
end

