-- ==== Sys2Proof/Machine/Status.lean ====
section
/-! DEFINITION. The status outputs: every register is readable by the host at any time, at its own width, without
side effect (10_state.md R40), and the bits of a response (30_encoding.md R80). -/
namespace Sys2Proof.Machine

/-- The fourteen registers by name (10_state.md R20). -/
inductive Register
  | state
  | rotation
  | requestedRotation
  | savedRequestedRotation
  | direction
  | requestedDirection
  | started
  | fault
  | revLatch
  | duration
  | phase
  | phaseCnt
  | debounceCnt
  | pins
  deriving DecidableEq, Repr

/-- The width of each register (10_state.md R20, 00_scope.md R10). -/
def Register.width : Register → Nat
  | .state => 3
  | .rotation => 16
  | .requestedRotation => 16
  | .savedRequestedRotation => 16
  | .direction => 1
  | .requestedDirection => 1
  | .started => 1
  | .fault => 1
  | .revLatch => 1
  | .duration => 16
  | .phase => 3
  | .phaseCnt => 16
  | .debounceCnt => 16
  | .pins => 6

/-- The encoding of `state` (30_encoding.md R76). -/
def EngineState.code : EngineState → BitVec 3
  | .init => 0
  | .ready => 1
  | .rotating => 2
  | .stopped => 3
  | .reversing => 4
  | .unused5 => 5
  | .unused6 => 6
  | .unused7 => 7

/-- The value of `state` that a 3-bit encoding stands for (30_encoding.md R76). -/
def EngineState.ofCode (c : BitVec 3) : EngineState :=
  match c.toNat with
  | 0 => .init
  | 1 => .ready
  | 2 => .rotating
  | 3 => .stopped
  | 4 => .reversing
  | 5 => .unused5
  | 6 => .unused6
  | _ => .unused7

/-- The status wires (10_state.md R40), with the flag encodings of 30_encoding.md R77. -/
def readStatus (r : Register) (s : State) : BitVec r.width :=
  match r with
  | .state => s.state.code
  | .rotation => s.rotation
  | .requestedRotation => s.requestedRotation
  | .savedRequestedRotation => s.savedRequestedRotation
  | .direction => BitVec.ofBool s.direction.bit
  | .requestedDirection => BitVec.ofBool s.requestedDirection.bit
  | .started => BitVec.ofBool s.started
  | .fault => BitVec.ofBool s.fault
  | .revLatch => BitVec.ofBool s.revLatch
  | .duration => s.duration
  | .phase => s.phase
  | .phaseCnt => s.phaseCnt
  | .debounceCnt => s.debounceCnt
  | .pins => s.pins

/-- The 9-bit response `r[8:0]`: bit 8 set when an event is returned, bits 7:0 its code (30_encoding.md R80). -/
def Response.bits : Response → BitVec 9
  | .none => 0#9
  | .event k => 1#1 ++ k
  | .accepted => 1#1 ++ 0x01#8

end Sys2Proof.Machine
end

