-- ==== Sys2Proof/Safety.lean ====
section
/-! DEFINITION. The terms claims are stated in: the invariants of the block (10_state.md R38 and the rules named
below), and runs of operations, which are how every interleaving of the two agents is written (20_memory.md R59). -/
namespace Sys2Proof.Machine

/-- A legal value of a speed register: 0, or a value in `SPEED_MIN..SPEED_MAX` (10_state.md R38 (d)). -/
abbrev legalSpeed (c : Config) (v : Word16) : Prop := v = 0#16 ∨ (c.speedMin ≤ v ∧ v ≤ c.speedMax)

/-- `state` is one of the five (30_encoding.md R76). -/
abbrev StateNamed (s : State) : Prop :=
  s.state = .init ∨ s.state = .ready ∨ s.state = .rotating ∨ s.state = .stopped ∨ s.state = .reversing

/-- `phase <= 5` (10_state.md R38 (a)). -/
abbrev PhaseInTable (s : State) : Prop := s.phase.toNat ≤ 5

/-- `rotation > 0` implies `duration = Period(rotation)` (10_state.md R38 (b)). -/
abbrev DurationIsPeriod (s : State) : Prop := s.rotation ≠ 0#16 → period s.rotation = some s.duration

/-- The requested speed is legal (10_state.md R38 (d)), and so is the saved one, which is a copy of it (R24). -/
abbrev SpeedsLegal (s : State) : Prop :=
  legalSpeed s.cfg s.requestedRotation ∧ legalSpeed s.cfg s.savedRequestedRotation

/-- `rotation <= SPEED_MAX` (10_state.md R38 (e)). -/
abbrev RotationBounded (s : State) : Prop := s.rotation ≤ s.cfg.speedMax

/-- `pins` has zero or two bits set (10_state.md R38 (f)). -/
abbrev PinsLegal (s : State) : Prop := activeLines s.pins = 0 ∨ activeLines s.pins = 2

/-- Until the first STEP after a reset the motor stands still, to the left, with no fault and no reversal
(70_reset_and_hazards.md R195 to R197; 90_conflicts.md C14). -/
abbrev InitClean (s : State) : Prop :=
  s.state = .init →
    s.rotation = 0#16 ∧ s.direction = .left ∧ s.fault = false ∧ s.revLatch = false ∧
      s.savedRequestedRotation = 0#16 ∧ s.duration = 0#16 ∧ s.phase = 0#3

/-- In Reversing a reversal is in progress (10_state.md R29). -/
abbrev ReversingLatched (s : State) : Prop := s.state = .reversing → s.revLatch = true

/-- With the fault latched the motor is driven at most until the Stopped arm has run (60_exceptions.md R178, R180). -/
abbrev FaultCutsDrive (s : State) : Prop := s.fault = true → s.state = .stopped ∨ s.rotation = 0#16

/-- The countdown never exceeds its window (43_debounce_gate.md R140, 40_tick_service.md R91). -/
abbrev WindowBounded (s : State) : Prop := s.debounceCnt ≤ s.cfg.debounceMs

/-- The invariant of the block: what every state that a run reaches satisfies. -/
abbrev Inv (s : State) : Prop :=
  s.cfg.legal ∧ StateNamed s ∧ PhaseInTable s ∧ DurationIsPeriod s ∧ SpeedsLegal s ∧ RotationBounded s ∧
    PinsLegal s ∧ InitClean s ∧ ReversingLatched s ∧ FaultCutsDrive s ∧ WindowBounded s

/-- The operations of a list one after the other, each applied whole to the state left by the one before it
(20_memory.md R59). -/
def execAll : List Instr → State → Host.Outcome State Fault Refusal
  | [], s => .next s
  | i :: rest, s =>
    match exec i s with
    | .next t => execAll rest t
    | .fault r => .fault r
    | .refused r => .refused r

/-- An operation that carries an event to the Debounce Gate: a KEYIN with one of the six codes, or FSAMPLE 1
(43_debounce_gate.md R140, R141, R143). -/
def carriesEvent (c : Config) : Instr → Bool
  | .nop => false
  | .tick => false
  | .step => false
  | .out => false
  | .fsample b => b
  | .keyin k => decide (k ∈ c.keys.codes)
  | .start => false
  | .stop => false
  | .setspd _ => false
  | .setdir _ => false

/-- The commands of the menu, NOP among them (44_host_commands.md). -/
def isMenuCommand : Instr → Bool
  | .nop => true
  | .tick => false
  | .step => false
  | .out => false
  | .fsample _ => false
  | .keyin _ => false
  | .start => true
  | .stop => true
  | .setspd _ => true
  | .setdir _ => true

/-- The period at a nonzero speed as the formula of the source gives it (42_engine.md R115). -/
def periodFormula (v : Word16) : Word16 := BitVec.ofNat 16 (60000 / (v.toNat * 6))

end Sys2Proof.Machine
end

