-- ==== Sys2Proof/Certificates/Slice0/Obligations.lean ====
section
/-! DEFINITION. The statements for the provers: what the rules of the spec say the operations and the machine do. A
right side of the form `.next { s with … }` states the whole result of an operation, its frame included: every field
not named there keeps its value. Rules that carry a decision mark rest on the spec's own decision D<n>, named in the
docstring. -/
open Sys2Proof Sys2Proof.Machine

/-! ## Encoding -/

/-- The decoding vectors W1 to W23 of 95_test_vectors.md 2.1, for a few words. -/
def Obligations.VectorWordsDecode : Prop :=
  decode 0x00000#20 = .op .nop ∧ decode 0x1ABCD#20 = .op .tick ∧ decode 0x2FFFF#20 = .op .step ∧
    decode 0x30000#20 = .op .out ∧ decode 0x40003#20 = .op (.fsample true) ∧
    decode 0x4FFFE#20 = .op (.fsample false) ∧ decode 0x5FF40#20 = .op (.keyin 0x40#8) ∧
    decode 0x60000#20 = .op .start ∧ decode 0x70000#20 = .op .stop ∧
    decode 0x80014#20 = .op (.setspd 20#16) ∧ decode 0x90001#20 = .op (.setdir true) ∧
    decode 0xB1234#20 = .reserved 0xB#4

/-- R73 and R74 on every word `{op, arg}`: the ten opcodes select their operations, with the operand assembly of
R72 and the unused bits ignored; the six others select none. -/
def Obligations.EveryWordDecodesByItsOpcode : Prop :=
  (∀ arg : BitVec 16,
    decode (0x0#4 ++ arg) = .op .nop ∧ decode (0x1#4 ++ arg) = .op .tick ∧ decode (0x2#4 ++ arg) = .op .step ∧
    decode (0x3#4 ++ arg) = .op .out ∧ decode (0x4#4 ++ arg) = .op (.fsample (arg.getLsbD 0)) ∧
    decode (0x5#4 ++ arg) = .op (.keyin (arg.setWidth 8)) ∧ decode (0x6#4 ++ arg) = .op .start ∧
    decode (0x7#4 ++ arg) = .op .stop ∧ decode (0x8#4 ++ arg) = .op (.setspd arg) ∧
    decode (0x9#4 ++ arg) = .op (.setdir (arg.getLsbD 0))) ∧
  ∀ (op : BitVec 4) (arg : BitVec 16), 10 ≤ op.toNat → decode (op ++ arg) = .reserved op

/-- R73: "a word `w` selects the row for which `w and mask = match`", and a word that no row selects is reserved. -/
def Obligations.TableRowsSelectTheirWords : Prop :=
  (∀ w : OpWord, ∀ r ∈ opcodeTable,
    (w &&& r.wordMask = r.wordMatch ↔
      ∃ i, decode w = .op i ∧ i.mnemonic = r.mnemonic ∧ i.format = r.format)) ∧
  ∀ w : OpWord, (∀ r ∈ opcodeTable, w &&& r.wordMask ≠ r.wordMatch) ↔ ∃ op, decode w = .reserved op

/-- Decode and encode agree on every well-formed operation, whatever stands in the bits its format ignores (R71,
R72, R75). -/
def Obligations.DecodeOfEncodeIgnoresUnusedBits : Prop :=
  ∀ (i : Instr) (noise : BitVec 16), i.wellFormed →
    decode (encode i ||| (0#4 ++ (noise &&& i.format.ignoredBits))) = .op i

/-- The other direction: the canonical word of what a word decodes to is that word with its unused bits zero (R75),
so a word without unused bits set is the only encoding of its operation. -/
def Obligations.EncodeOfDecodeClearsUnusedBits : Prop :=
  ∀ (w : OpWord) (i : Instr), decode w = .op i →
    encode i = w &&& (0xF#4 ++ ~~~ i.format.ignoredBits)

/-- R81: "The word for a line is `op << 16 | operand`"; R82 (decision D25): the expansion of TICKS, STEPS and PASS. A
number out of range has no word: the model's choice, log entry 15. -/
def Obligations.ScriptLinesHaveTheirWords : Prop :=
  scriptWords (.op .nop) = some [0x00000#20] ∧ scriptWords (.op .tick) = some [0x10000#20] ∧
  scriptWords (.op .step) = some [0x20000#20] ∧ scriptWords (.op .out) = some [0x30000#20] ∧
  scriptWords (.op .start) = some [0x60000#20] ∧ scriptWords (.op .stop) = some [0x70000#20] ∧
  (∀ n, scriptWords (.ticks n) = some (List.replicate n 0x10000#20) ∧
    scriptWords (.steps n) = some (List.replicate n 0x20000#20)) ∧
  ∀ b k v : Nat,
    (b ≤ 1 → scriptWords (.op (.fsample b)) = some [BitVec.ofNat 20 (4 <<< 16 ||| b)] ∧
      scriptWords (.op (.setdir b)) = some [BitVec.ofNat 20 (9 <<< 16 ||| b)]) ∧
    (k ≤ 255 → scriptWords (.op (.keyin k)) = some [BitVec.ofNat 20 (5 <<< 16 ||| k)]) ∧
    (v ≤ 65535 → scriptWords (.op (.setspd v)) = some [BitVec.ofNat 20 (8 <<< 16 ||| v)]) ∧
    (b ≤ 1 → k ≤ 255 →
      scriptWords (.pass b k none) = some
        [BitVec.ofNat 20 (4 <<< 16 ||| b), BitVec.ofNat 20 (5 <<< 16 ||| k), 0x20000#20, 0x30000#20]) ∧
    (∀ (cmd : ScriptOp) (c : OpWord), b ≤ 1 → k ≤ 255 →
      (cmd = .start ∨ cmd = .stop ∨ cmd = .setspd v ∨ cmd = .setdir v) → scriptWords (.op cmd) = some [c] →
      scriptWords (.pass b k (some cmd)) = some
        [BitVec.ofNat 20 (4 <<< 16 ||| b), BitVec.ofNat 20 (5 <<< 16 ||| k), c, 0x20000#20, 0x30000#20]) ∧
    (1 < b → scriptWords (.op (.fsample b)) = none ∧ scriptWords (.op (.setdir b)) = none) ∧
    (255 < k → scriptWords (.op (.keyin k)) = none) ∧ (65535 < v → scriptWords (.op (.setspd v)) = none)

/-! ## The step -/

/-- A step applies the presented operation, whole (R56, R59). -/
def Obligations.StepRunsThePresentedOperation : Prop :=
  ∀ (s : State) (w : OpWord) (i : Instr) (rest : List Input),
    s.cfg.legal → s.inputs = .op w :: rest → decode w = .op i →
      step s = exec i { s with inputs := rest }

/-- R60: "the TICK is applied first", then the main agent's operation. -/
def Obligations.TickGoesFirst : Prop :=
  ∀ (s : State) (w : OpWord) (i : Instr) (rest : List Input),
    s.cfg.legal → s.inputs = .withTick w :: rest → decode w = .op i →
      ∃ t, exec .tick { s with inputs := .op w :: rest } = .next t ∧ step s = .next t ∧
        step t = exec i { t with inputs := rest }

/-- R74 and R160: a reserved word changes no register and its response is none. -/
def Obligations.ReservedWordIsANoOperation : Prop :=
  ∀ (s : State) (w : OpWord) (rest : List Input),
    s.cfg.legal → s.inputs = .op w :: rest → 0xA#4 ≤ w.extractLsb' 16 4 →
      step s = .next { s with inputs := rest, resp := .none }

/-- R41: the state after reset, for every configuration, and `State.reset` is one such state. -/
def Obligations.ResetStateHoldsTheResetTable : Prop :=
  (∀ c : Config, ∃ s, State.resetFor c = s ∧
    s.state = .init ∧ s.state.code = 0#3 ∧ s.rotation = 0#16 ∧ s.requestedRotation = 0#16 ∧
    s.savedRequestedRotation = 0#16 ∧ s.direction = .left ∧ s.requestedDirection = .left ∧ s.started = false ∧
    s.fault = false ∧ s.revLatch = false ∧ s.duration = 0#16 ∧ s.phase = 0#3 ∧ s.phaseCnt = 0#16 ∧
    s.debounceCnt = 0#16 ∧ s.pins = 0#6) ∧
  State.reset = State.resetFor State.reset.cfg

/-- A reset presented in any state leaves the reset state of R41 (R195), in the same configuration (R196). What is
presented after it stays presented: the model's choice, log entry 6. -/
def Obligations.ResetInputLeavesTheResetState : Prop :=
  ∀ (s : State) (rest : List Input), s.cfg.legal → s.inputs = .reset :: rest →
    step s = .next { State.resetFor s.cfg with inputs := rest }

/-- R199: "No operation halts the block". Every operation has a next state in every state, so the period at speed 0
is never computed (R126, R172), and every step of a legal block has one. No operation changes the configuration. -/
def Obligations.NoOperationHaltsTheBlock : Prop :=
  (∀ (i : Instr) (s : State), ∃ t, exec i s = .next t ∧ t.cfg = s.cfg ∧ t.inputs = s.inputs) ∧
  ∀ s : State, s.cfg.legal → ∃ t, step s = .next t ∧ t.cfg = s.cfg

/-- A configuration that breaks a constraint of R9 is refused (93_implementation_defined.md U9 to U11). -/
def Obligations.IllegalConfigurationIsRefused : Prop :=
  ∀ s : State,
    (s.cfg.speedMin = 0#16 ∨ s.cfg.speedMax < s.cfg.speedMin ∨ 10000#16 < s.cfg.speedMax ∨ s.cfg.debounceMs = 0#16 ∨
      (∃ p ∈ s.cfg.commTable.entries, activeLines p ≠ 2) ∨ ¬ s.cfg.keys.codes.Nodup ∨
      0x00#8 ∈ s.cfg.keys.codes ∨ 0xFF#8 ∈ s.cfg.keys.codes) →
    step s = .refused .illegalConfig

/-! ## TICK -/

/-- R90: both countdowns saturate at 0; the phase moves and the counter is reloaded where the counter is 0 after its
decrement and the motor turns (the reading of R92, decision D12, log entry 13), by one step of R100; nothing else
changes. -/
def Obligations.TickCountsAndAdvances : Prop :=
  ∀ s : State, ∃ t, exec .tick s = .next t ∧
    t = { s with
          debounceCnt := t.debounceCnt, phaseCnt := t.phaseCnt, phase := t.phase, resp := .none } ∧
    t.debounceCnt.toNat = s.debounceCnt.toNat - 1 ∧
    (¬ (s.phaseCnt.toNat ≤ 1 ∧ 0 < s.rotation.toNat) →
      t.phaseCnt.toNat = s.phaseCnt.toNat - 1 ∧ t.phase = s.phase) ∧
    (s.phaseCnt.toNat ≤ 1 ∧ 0 < s.rotation.toNat →
      t.phaseCnt = s.duration ∧
      (s.direction = .right → t.phase.toNat = (s.phase.toNat + 1) % 6) ∧
      (s.direction = .left → t.phase.toNat = (s.phase.toNat + 5) % 6))

/-- R91 and R92 (both are inferences the spec marks as derived or decided, D12): after `n` TICKs each countdown has
lost `n`, saturating at 0, while the motor stands still; the debounce countdown does so in any case. -/
def Obligations.CountdownsDrainTickByTick : Prop :=
  ∀ (s : State) (n : Nat), ∃ t, execAll (List.replicate n .tick) s = .next t ∧
    t.debounceCnt.toNat = s.debounceCnt.toNat - n ∧
    (s.rotation = 0#16 → t.phaseCnt.toNat = s.phaseCnt.toNat - n ∧ t.phase = s.phase)

/-- R93 (derived in the spec from R90): with speed and period unchanged, the first expiry comes when the leftover
count runs out, at once if it has, and then ADVANCE is applied once every `duration` TICKs. -/
def Obligations.CommutationRunsOncePerDuration : Prop :=
  ∀ (s : State) (n : Nat), s.rotation ≠ 0#16 → s.duration ≠ 0#16 → s.phase.toNat ≤ 5 →
    ∃ t, execAll (List.replicate n .tick) s = .next t ∧
      t = { s with
            debounceCnt := t.debounceCnt, phaseCnt := t.phaseCnt, phase := t.phase, resp := t.resp } ∧
      (n < max s.phaseCnt.toNat 1 → t.phase = s.phase ∧ t.phaseCnt.toNat = s.phaseCnt.toNat - n) ∧
      (max s.phaseCnt.toNat 1 ≤ n →
        t.phaseCnt.toNat = s.duration.toNat - (n - max s.phaseCnt.toNat 1) % s.duration.toNat ∧
        (s.direction = .right → t.phase.toNat =
          (s.phase.toNat + (1 + (n - max s.phaseCnt.toNat 1) / s.duration.toNat)) % 6) ∧
        (s.direction = .left → t.phase.toNat =
          (s.phase.toNat + 5 * (1 + (n - max s.phaseCnt.toNat 1) / s.duration.toNat)) % 6))

/-- R62 and R59: a TICK may fall before or after a menu command, or before or after the Reversing commit (R122 (d),
vector I3), with the same result. -/
def Obligations.TickCommutesWithCommandsAndCommit : Prop :=
  (∀ (s : State) (i : Instr), isMenuCommand i = true →
    ∃ t, execAll [.tick, i] s = .next t ∧ execAll [i, .tick] s = .next t) ∧
  ∀ s : State, s.state = .reversing → s.rotation = 0#16 →
    ∃ t, execAll [.tick, .step] s = .next t ∧ execAll [.step, .tick] s = .next t ∧
      t.phase = 0#3 ∧ t.direction = s.requestedDirection

/-! ## OUT -/

/-- R102 and R103: the all-zero pattern at speed 0, else the table entry at `phase`, and the all-zero pattern for an
index above 5 (R105, decision D21, log entry 13); only `pins` is written. -/
def Obligations.OutWritesThePattern : Prop :=
  ∀ s : State, ∃ p, exec .out s = .next { s with pins := p, resp := .none } ∧
    (s.rotation = 0#16 → p = 0#6) ∧
    (s.rotation ≠ 0#16 →
      (s.phase = 0#3 → p = s.cfg.commTable.entry0) ∧ (s.phase = 1#3 → p = s.cfg.commTable.entry1) ∧
      (s.phase = 2#3 → p = s.cfg.commTable.entry2) ∧ (s.phase = 3#3 → p = s.cfg.commTable.entry3) ∧
      (s.phase = 4#3 → p = s.cfg.commTable.entry4) ∧ (s.phase = 5#3 → p = s.cfg.commTable.entry5) ∧
      (5 < s.phase.toNat → p = 0#6))

/-- R104 (derived in the spec): every value OUT writes is 0 or has two bits set, and with the default table two
neighbouring entries share exactly one active line. -/
def Obligations.OutActivatesNoneOrTwoLines : Prop :=
  (∀ s : State, s.cfg.commTable.legal →
    ∃ t, exec .out s = .next t ∧ (t.pins = 0#6 ∨ activeLines t.pins = 2)) ∧
  ∀ (ph : PhaseIndex) (d : Direction), ph.toNat ≤ 5 →
    activeLines (output CommTable.default ph 1#16 &&& output CommTable.default (nextPhase d ph) 1#16) = 1

/-! ## STEP -/

/-- R115: the value of Period at every nonzero speed, its simpler form, when it is at least 1, and no value at 0. -/
def Obligations.PeriodIsTheTruncatedQuotient : Prop :=
  period 0#16 = none ∧
  ∀ r : Word16, r ≠ 0#16 → ∃ p, period r = some p ∧ p.toNat = 60000 / (r.toNat * 6) ∧
    p.toNat = 10000 / r.toNat ∧ (1 ≤ p.toNat ↔ r.toNat ≤ 10000)

/-- R118, with the decision D20 for the fields the source does not list; the unused encodings run this arm (R117,
decision D3); no operation leads to Init from another state. -/
def Obligations.StepInInitResetsTheEngine : Prop :=
  (∀ s : State,
    (s.state = .init ∨ s.state = .unused5 ∨ s.state = .unused6 ∨ s.state = .unused7) →
    exec .step s = .next
      { s with
        phase := 0#3, direction := .left, rotation := 0#16, requestedRotation := 0#16, started := false, fault := false,
        requestedDirection := .left, savedRequestedRotation := 0#16, revLatch := false, duration := 0#16,
        state := .ready, resp := .none }) ∧
  ∀ (i : Instr) (s t : State), exec i s = .next t → t.state = .init → s.state = .init

/-- R119, with the seed of decision D10: direction mismatch, then the run condition, then idle. -/
def Obligations.StepInReady : Prop :=
  ∀ s : State, s.state = .ready →
    (s.requestedDirection ≠ s.direction → s.revLatch = false →
      exec .step s = .next
        { s with
          savedRequestedRotation := s.requestedRotation, revLatch := true, state := .reversing, resp := .none }) ∧
    (s.requestedDirection ≠ s.direction → s.revLatch = true →
      exec .step s = .next { s with state := .reversing, resp := .none }) ∧
    (s.requestedDirection = s.direction → 0 < s.requestedRotation.toNat → s.started = true → s.fault = false →
      s.rotation = 0#16 → exec .step s = .next { s with rotation := 1#16, duration := 10000#16, resp := .none }) ∧
    (s.requestedDirection = s.direction → 0 < s.requestedRotation.toNat → s.started = true → s.fault = false →
      0 < s.rotation.toNat →
      exec .step s = .next
        { s with duration := periodFormula s.rotation, state := .rotating, resp := .none }) ∧
    (s.requestedDirection = s.direction → (s.requestedRotation = 0#16 ∨ s.started = false ∨ s.fault = true) →
      exec .step s = .next { s with rotation := 0#16, resp := .none })

/-- R120: stop branch (decision D14), then a new reversal, then the ramp by one unit (decision D15). The period
follows a nonzero speed (R116, decision D11) and stays stale at 0. -/
def Obligations.StepInRotating : Prop :=
  ∀ s : State, s.state = .rotating →
    ((s.started = false ∨ s.fault = true) →
      (s.rotation = 0#16 → exec .step s = .next { s with state := .stopped, resp := .none }) ∧
      (s.rotation = 1#16 → exec .step s = .next { s with rotation := 0#16, resp := .none }) ∧
      (1 < s.rotation.toNat → exec .step s = .next
        { s with rotation := s.rotation - 1#16, duration := periodFormula (s.rotation - 1#16), resp := .none })) ∧
    (s.started = true → s.fault = false →
      (s.requestedDirection ≠ s.direction → s.revLatch = false → exec .step s = .next
        { s with
          savedRequestedRotation := s.requestedRotation, revLatch := true, state := .reversing, resp := .none }) ∧
      ((s.requestedDirection = s.direction ∨ s.revLatch = true) →
        (s.rotation < s.requestedRotation → exec .step s = .next
          { s with
            rotation := s.rotation + 1#16, duration := periodFormula (s.rotation + 1#16), state := .ready,
            resp := .none }) ∧
        (s.requestedRotation < s.rotation → s.rotation = 1#16 → exec .step s = .next
          { s with rotation := 0#16, state := .ready, resp := .none }) ∧
        (s.requestedRotation < s.rotation → s.rotation ≠ 1#16 → exec .step s = .next
          { s with
            rotation := s.rotation - 1#16, duration := periodFormula (s.rotation - 1#16), state := .ready,
            resp := .none }) ∧
        (s.rotation = s.requestedRotation → exec .step s = .next { s with resp := .none })))

/-- R121: the three registers are cleared, the fault latch and the reversal latch are not. -/
def Obligations.StepInStoppedCutsTheDrive : Prop :=
  ∀ s : State, s.state = .stopped →
    exec .step s = .next
      { s with started := false, requestedRotation := 0#16, rotation := 0#16, state := .ready, resp := .none }

/-- R122: the zero target while the motor turns (decision D16), the commit at standstill. -/
def Obligations.StepInReversing : Prop :=
  ∀ s : State, s.state = .reversing →
    (s.rotation ≠ 0#16 →
      exec .step s = .next { s with requestedRotation := 0#16, state := .rotating, resp := .none }) ∧
    (s.rotation = 0#16 →
      exec .step s = .next
        { s with
          direction := s.requestedDirection, requestedRotation := s.savedRequestedRotation, phase := 0#3,
          started := true, revLatch := false, state := .rotating, resp := .none })

/-- R123 (derived in the spec): every change of `state`, with the operation and the condition that takes it. -/
def Obligations.StateChangesOnlyByTheDiagram : Prop :=
  ∀ (i : Instr) (s t : State), exec i s = .next t → t.state ≠ s.state →
    (i = .fsample true ∧ s.debounceCnt = 0#16 ∧ t.state = .stopped ∧ t.fault = true) ∨
    (i = .step ∧
      (((s.state = .init ∨ s.state = .unused5 ∨ s.state = .unused6 ∨ s.state = .unused7) ∧ t.state = .ready) ∨
       (s.state = .ready ∧ directionMismatch s ∧ t.state = .reversing) ∨
       (s.state = .ready ∧ ¬ directionMismatch s ∧ runCondition s ∧ s.rotation ≠ 0#16 ∧ t.state = .rotating) ∨
       (s.state = .rotating ∧ stopTest s ∧ s.rotation = 0#16 ∧ t.state = .stopped) ∨
       (s.state = .rotating ∧ ¬ stopTest s ∧ newReversal s ∧ t.state = .reversing) ∨
       (s.state = .rotating ∧ ¬ stopTest s ∧ ¬ newReversal s ∧ s.rotation ≠ s.requestedRotation ∧
         t.state = .ready) ∨
       (s.state = .stopped ∧ t.state = .ready) ∨
       (s.state = .reversing ∧ t.state = .rotating)))

/-- R125 (derived in the spec): `direction` changes only by the Reversing commit, at standstill. -/
def Obligations.DirectionChangesOnlyAtTheCommit : Prop :=
  ∀ (i : Instr) (s t : State), Inv s → exec i s = .next t → t.direction ≠ s.direction →
    i = .step ∧ s.state = .reversing ∧ s.rotation = 0#16 ∧ t.direction = s.requestedDirection ∧ t.phase = 0#3

/-- R128 (derived in the spec): spin-up from idle to the requested speed takes `2s` STEPs. -/
def Obligations.SpinUpTakesTwoStepsPerUnit : Prop :=
  ∀ s : State, s.state = .ready → s.rotation = 0#16 → s.requestedDirection = s.direction →
    s.requestedRotation ≠ 0#16 → s.started = true → s.fault = false →
    execAll (List.replicate (2 * s.requestedRotation.toNat) .step) s = .next
      { s with
        state := .rotating, rotation := s.requestedRotation, duration := periodFormula s.requestedRotation,
        resp := .none }

/-- R128 and R202 (derived in the spec): a stop met in Rotating takes one pass per unit, one to Stopped and one to
Ready, and the requested speed is lost. -/
def Obligations.StopRampsDownAndForgetsTheSpeed : Prop :=
  ∀ s : State, s.state = .rotating → (s.started = false ∨ s.fault = true) →
    execAll (List.replicate (s.rotation.toNat + 2) .step) s = .next
      { s with
        state := .ready, rotation := 0#16, requestedRotation := 0#16, started := false,
        duration := if s.rotation.toNat ≤ 1 then s.duration else 10000#16, resp := .none }

/-- R124 (derived in the spec): a SETDIR to the other direction from steady running at speed `v` is followed by
`5v + 2` STEPs to steady running at the same speed in the new direction. -/
def Obligations.ReversalTakesFiveStepsPerUnitAndTwo : Prop :=
  ∀ (s : State) (b : Bool), s.state = .rotating → s.rotation = s.requestedRotation → s.rotation ≠ 0#16 →
    s.started = true → s.fault = false → s.revLatch = false → s.requestedDirection = s.direction →
    Direction.ofBit b ≠ s.direction →
    execAll (.setdir b :: List.replicate (5 * s.rotation.toNat + 2) .step) s = .next
      { s with
        direction := Direction.ofBit b, requestedDirection := Direction.ofBit b,
        savedRequestedRotation := s.rotation, phase := 0#3, duration := periodFormula s.rotation, resp := .none }

/-- R208 (derived in the spec): after a STOP during a reversal the motor ramps down, stops, and the commit starts it
again at the saved speed in the new direction. -/
def Obligations.StopDuringAReversalDoesNotHold : Prop :=
  ∀ s : State, s.state = .rotating → s.revLatch = true → s.requestedDirection ≠ s.direction →
    execAll (.stop :: List.replicate (s.rotation.toNat + 4) .step) s = .next
      { s with
        state := .rotating, rotation := 0#16, requestedRotation := s.savedRequestedRotation,
        direction := s.requestedDirection, started := true, fault := false, revLatch := false, phase := 0#3,
        duration := if s.rotation.toNat ≤ 1 then s.duration else 10000#16, resp := .none }

/-- R209 (derived in the spec): a direction request at standstill leads in two passes to the commit, which sets
`started`. -/
def Obligations.DirectionRequestAtStandstillStarts : Prop :=
  ∀ (s : State) (b : Bool), s.state = .ready → s.rotation = 0#16 → s.revLatch = false →
    Direction.ofBit b ≠ s.direction →
    execAll [.setdir b, .step, .step] s = .next
      { s with
        state := .rotating, direction := Direction.ofBit b, requestedDirection := Direction.ofBit b,
        savedRequestedRotation := s.requestedRotation, started := true, phase := 0#3, resp := .none }

/-! ## KEYIN and FSAMPLE -/

/-- R142 with R140 and R141: one of the six codes with the window open is an event and reloads the window; any other
byte, or a closed window, gives none; KEYIN writes no Engine register. -/
def Obligations.KeyinPassesTheGate : Prop :=
  ∀ (k : KeyByte) (s : State),
    ((k = s.cfg.keys.esc ∨ k = s.cfg.keys.ok ∨ k = s.cfg.keys.up ∨ k = s.cfg.keys.down ∨
        k = s.cfg.keys.start ∨ k = s.cfg.keys.stop) → s.debounceCnt = 0#16 →
      exec (.keyin k) s = .next { s with debounceCnt := s.cfg.debounceMs, resp := .event k }) ∧
    (s.debounceCnt ≠ 0#16 → exec (.keyin k) s = .next { s with resp := .none }) ∧
    (k ≠ s.cfg.keys.esc → k ≠ s.cfg.keys.ok → k ≠ s.cfg.keys.up → k ≠ s.cfg.keys.down →
        k ≠ s.cfg.keys.start → k ≠ s.cfg.keys.stop →
      exec (.keyin k) s = .next { s with resp := .none })

/-- R143 and R178 (decisions D13, D17): an accepted asserted sample takes the trap; nothing is saved and nothing else
changes; a closed window or a released input changes no register. -/
def Obligations.FsampleTakesTheFaultTrap : Prop :=
  ∀ s : State,
    exec (.fsample false) s = .next { s with resp := .none } ∧
    (s.debounceCnt ≠ 0#16 → exec (.fsample true) s = .next { s with resp := .none }) ∧
    (s.debounceCnt = 0#16 → exec (.fsample true) s = .next
      { s with debounceCnt := s.cfg.debounceMs, fault := true, state := .stopped, resp := .accepted })

/-- R144 and R145 (derived in the spec): an accepted event suppresses every event, from whichever source, until
`DEBOUNCE_MS` TICKs have passed, whatever other operations fall between; a suppressed event does not restart the
window. -/
def Obligations.DebounceWindowHoldsForAnyInterleaving : Prop :=
  ∀ (s : State) (first second : Instr) (between : List Instr),
    s.debounceCnt = 0#16 → carriesEvent s.cfg first = true → carriesEvent s.cfg second = true →
    (∀ i ∈ between, carriesEvent s.cfg i = false) →
    ∃ a t u, exec first s = .next a ∧ a.resp ≠ .none ∧ execAll between a = .next t ∧
      exec second t = .next u ∧
      (between.count .tick < s.cfg.debounceMs.toNat → u.resp = .none ∧ u.debounceCnt = t.debounceCnt) ∧
      (s.cfg.debounceMs.toNat ≤ between.count .tick →
        u.resp ≠ .none ∧ u.debounceCnt = s.cfg.debounceMs)

/-- R178 and R129 (decision D13): within the pass of an accepted fault sample the drive is cut, wherever the TICKs
fall, in whichever state the Engine was. -/
def Obligations.AcceptedFaultCutsTheDriveInItsPass : Prop :=
  ∀ (s : State) (n m : Nat), s.debounceCnt = 0#16 →
    ∃ t, execAll (.fsample true :: (List.replicate n .tick ++ .step :: (List.replicate m .tick ++ [.out]))) s
        = .next t ∧
      t.pins = 0#6 ∧ t.rotation = 0#16 ∧ t.requestedRotation = 0#16 ∧ t.started = false ∧ t.fault = true ∧
      t.state = .ready ∧ t.direction = s.direction ∧ t.revLatch = s.revLatch ∧ t.duration = s.duration

/-- R28, with R171 and R179: only an accepted FSAMPLE 1 sets the fault latch, and only STOP clears it in operation
(the Init arm, which runs once after reset, never finds it set: 90_conflicts.md C14). -/
def Obligations.FaultIsSetByTheTrapAndClearedByStop : Prop :=
  ∀ (i : Instr) (s t : State), Inv s → exec i s = .next t →
    (s.fault = false → t.fault = true → i = .fsample true ∧ s.debounceCnt = 0#16 ∧ t.state = .stopped) ∧
    (s.fault = true → t.fault = false → i = .stop)

/-! ## Host commands -/

/-- R155: NOP writes no register. -/
def Obligations.NopChangesNoRegister : Prop :=
  ∀ s : State, exec .nop s = .next { s with resp := .none }

/-- R156 (decision D18): START writes `started` only. -/
def Obligations.StartSetsTheRunFlag : Prop :=
  ∀ s : State, exec .start s = .next { s with started := true, resp := .none }

/-- R157 (decision D18): STOP writes `started` and `fault` only. -/
def Obligations.StopClearsTheRunFlagAndTheFault : Prop :=
  ∀ s : State, exec .stop s = .next { s with started := false, fault := false, resp := .none }

/-- R158 (decision D19): 0 stays 0, any other operand is brought into the bounds, the floor first and the ceiling
last; only `requested_rotation` is written. -/
def Obligations.SetspdClampsTheRequestedSpeed : Prop :=
  ∀ (v : Word16) (s : State), ∃ r : Word16,
    exec (.setspd v) s = .next { s with requestedRotation := r, resp := .none } ∧
    (v = 0#16 → r = 0#16) ∧
    (v ≠ 0#16 → r.toNat = min (max v.toNat s.cfg.speedMin.toNat) s.cfg.speedMax.toNat)

/-- R159 (decision D19): SETDIR writes `requested_direction` only, 0 left and 1 right. -/
def Obligations.SetdirWritesTheRequestedDirection : Prop :=
  ∀ s : State,
    exec (.setdir false) s = .next { s with requestedDirection := .left, resp := .none } ∧
    exec (.setdir true) s = .next { s with requestedDirection := .right, resp := .none }

/-- R57 (derived in the spec): the menu commands and OUT issued twice are the same as once. -/
def Obligations.CommandsAndOutAreIdempotent : Prop :=
  ∀ (i : Instr) (s : State), (isMenuCommand i = true ∨ i = .out) →
    ∃ t, exec i s = .next t ∧ exec i t = .next t

/-- R197 (derived in the spec): whatever menu commands come before the first STEP after a reset, that STEP discards
them. -/
def Obligations.FirstStepDiscardsEarlyCommands : Prop :=
  ∀ (c : Config) (early : List Instr), (∀ i ∈ early, isMenuCommand i = true) →
    execAll (early ++ [.step]) (State.resetFor c) = .next { State.resetFor c with state := .ready }

/-! ## Responses and status -/

/-- R80: only an accepted key and an accepted fault sample are answered with an event; the bits of a response. -/
def Obligations.ResponsesAreThoseOfTheTwoReaders : Prop :=
  (∀ (i : Instr) (s t : State), exec i s = .next t →
    t.resp = .none ∨ (∃ k, i = .keyin k ∧ k ∈ s.cfg.keys.codes ∧ t.resp = .event k) ∨
      (i = .fsample true ∧ t.resp = .accepted)) ∧
  (∀ s : State, (reservedNoOp s).resp = .none) ∧
  Response.none.bits.toNat = 0 ∧ Response.accepted.bits.toNat = 0x101 ∧
  ∀ k : KeyByte, (Response.event k).bits.toNat = 0x100 + k.toNat

/-- R76 and R77: the encodings of `state` and of the flags as the status wires of R40 show them. -/
def Obligations.StatusWiresShowTheEncodings : Prop :=
  (∀ s : State,
    (s.state = .init → (readStatus .state s).toNat = 0) ∧ (s.state = .ready → (readStatus .state s).toNat = 1) ∧
    (s.state = .rotating → (readStatus .state s).toNat = 2) ∧ (s.state = .stopped → (readStatus .state s).toNat = 3) ∧
    (s.state = .reversing → (readStatus .state s).toNat = 4) ∧
    (s.direction = .left → (readStatus .direction s).toNat = 0) ∧
    (s.direction = .right → (readStatus .direction s).toNat = 1) ∧
    (s.requestedDirection = .left → (readStatus .requestedDirection s).toNat = 0) ∧
    (s.requestedDirection = .right → (readStatus .requestedDirection s).toNat = 1) ∧
    (readStatus .started s).toNat = s.started.toNat ∧ (readStatus .fault s).toNat = s.fault.toNat ∧
    (readStatus .revLatch s).toNat = s.revLatch.toNat) ∧
  (∀ c : BitVec 3, (EngineState.ofCode c).code = c) ∧ ∀ e : EngineState, EngineState.ofCode e.code = e

/-! ## Whole machine -/

/-- The column "written by" of the table in R20: which operations can change which register, "STEP (Init only)"
being the arm of Init and of the unused encodings. -/
def Obligations.RegistersAreWrittenByTheirOperations : Prop :=
  ∀ (i : Instr) (s t : State), exec i s = .next t →
    (t.state ≠ s.state → i = .step ∨ i = .fsample true) ∧
    (t.rotation ≠ s.rotation → i = .step) ∧
    (t.requestedRotation ≠ s.requestedRotation → i = .step ∨ ∃ v, i = .setspd v) ∧
    (t.savedRequestedRotation ≠ s.savedRequestedRotation → i = .step) ∧
    (t.direction ≠ s.direction → i = .step) ∧
    (t.requestedDirection ≠ s.requestedDirection →
      (i = .step ∧ s.state ≠ .ready ∧ s.state ≠ .rotating ∧ s.state ≠ .stopped ∧ s.state ≠ .reversing) ∨
        ∃ b, i = .setdir b) ∧
    (t.started ≠ s.started → i = .step ∨ i = .start ∨ i = .stop) ∧
    (t.fault ≠ s.fault →
      (i = .step ∧ s.state ≠ .ready ∧ s.state ≠ .rotating ∧ s.state ≠ .stopped ∧ s.state ≠ .reversing) ∨
        i = .stop ∨ i = .fsample true) ∧
    (t.revLatch ≠ s.revLatch → i = .step) ∧
    (t.duration ≠ s.duration → i = .step) ∧
    (t.phase ≠ s.phase → i = .step ∨ i = .tick) ∧
    (t.phaseCnt ≠ s.phaseCnt → i = .tick) ∧
    (t.debounceCnt ≠ s.debounceCnt → i = .tick ∨ i = .fsample true ∨ ∃ k, i = .keyin k) ∧
    (t.pins ≠ s.pins → i = .out)

/-- R38 (g) (derived in the spec): while no reversal is in progress the saved speed is not read before it is next
written, so no other register can depend on it. -/
def Obligations.SavedSpeedIsHiddenWithoutAReversal : Prop :=
  ∀ (i : Instr) (s : State) (x : Word16), Inv s → s.revLatch = false →
    ∃ t, exec i s = .next t ∧
      ((t.savedRequestedRotation = s.savedRequestedRotation ∧
          exec i { s with savedRequestedRotation := x } = .next { t with savedRequestedRotation := x }) ∨
        exec i { s with savedRequestedRotation := x } = .next t)

/-- R38 (a), (b), (d), (e), (f), with R76, R28, R178 and R180: every step keeps the invariant of the block, whatever
is presented. -/
def Obligations.StepKeepsInv : Prop := ∀ s t : State, Inv s → step s = .next t → Inv t

/-- The invariant holds after reset in every legal configuration, and at `State.reset` (whose configuration is the
model's choice, log entry 2). -/
def Obligations.ResetHasInv : Prop := (∀ c : Config, c.legal → Inv (State.resetFor c)) ∧ Inv State.reset
end

