-- ==== Sys2Proof/Laws/State.lean ====
section
/-! SUPPORT. One lemma per field per named update: what the update leaves in that field. Later proofs rewrite with
these and never unfold an update. -/
namespace Sys2Proof.Machine

variable (s : State)

/-! ### `resp <- r` (`respond`) -/

@[simp] theorem respond_state (r : Response) : (respond r s).state = s.state := rfl
@[simp] theorem respond_rotation (r : Response) : (respond r s).rotation = s.rotation := rfl
@[simp] theorem respond_requestedRotation (r : Response) : (respond r s).requestedRotation = s.requestedRotation := rfl
@[simp] theorem respond_savedRequestedRotation (r : Response) : (respond r s).savedRequestedRotation = s.savedRequestedRotation := rfl
@[simp] theorem respond_direction (r : Response) : (respond r s).direction = s.direction := rfl
@[simp] theorem respond_requestedDirection (r : Response) : (respond r s).requestedDirection = s.requestedDirection := rfl
@[simp] theorem respond_started (r : Response) : (respond r s).started = s.started := rfl
@[simp] theorem respond_fault (r : Response) : (respond r s).fault = s.fault := rfl
@[simp] theorem respond_revLatch (r : Response) : (respond r s).revLatch = s.revLatch := rfl
@[simp] theorem respond_duration (r : Response) : (respond r s).duration = s.duration := rfl
@[simp] theorem respond_phase (r : Response) : (respond r s).phase = s.phase := rfl
@[simp] theorem respond_phaseCnt (r : Response) : (respond r s).phaseCnt = s.phaseCnt := rfl
@[simp] theorem respond_debounceCnt (r : Response) : (respond r s).debounceCnt = s.debounceCnt := rfl
@[simp] theorem respond_pins (r : Response) : (respond r s).pins = s.pins := rfl
@[simp] theorem respond_cfg (r : Response) : (respond r s).cfg = s.cfg := rfl
@[simp] theorem respond_resp (r : Response) : (respond r s).resp = r := rfl
@[simp] theorem respond_inputs (r : Response) : (respond r s).inputs = s.inputs := rfl

/-! ### the two countdowns (`countDownTimers`) -/

@[simp] theorem countDownTimers_state : (countDownTimers s).state = s.state := rfl
@[simp] theorem countDownTimers_rotation : (countDownTimers s).rotation = s.rotation := rfl
@[simp] theorem countDownTimers_requestedRotation : (countDownTimers s).requestedRotation = s.requestedRotation := rfl
@[simp] theorem countDownTimers_savedRequestedRotation : (countDownTimers s).savedRequestedRotation = s.savedRequestedRotation := rfl
@[simp] theorem countDownTimers_direction : (countDownTimers s).direction = s.direction := rfl
@[simp] theorem countDownTimers_requestedDirection : (countDownTimers s).requestedDirection = s.requestedDirection := rfl
@[simp] theorem countDownTimers_started : (countDownTimers s).started = s.started := rfl
@[simp] theorem countDownTimers_fault : (countDownTimers s).fault = s.fault := rfl
@[simp] theorem countDownTimers_revLatch : (countDownTimers s).revLatch = s.revLatch := rfl
@[simp] theorem countDownTimers_duration : (countDownTimers s).duration = s.duration := rfl
@[simp] theorem countDownTimers_phase : (countDownTimers s).phase = s.phase := rfl
@[simp] theorem countDownTimers_phaseCnt : (countDownTimers s).phaseCnt = countDown s.phaseCnt := rfl
@[simp] theorem countDownTimers_debounceCnt : (countDownTimers s).debounceCnt = countDown s.debounceCnt := rfl
@[simp] theorem countDownTimers_pins : (countDownTimers s).pins = s.pins := rfl
@[simp] theorem countDownTimers_cfg : (countDownTimers s).cfg = s.cfg := rfl
@[simp] theorem countDownTimers_resp : (countDownTimers s).resp = s.resp := rfl
@[simp] theorem countDownTimers_inputs : (countDownTimers s).inputs = s.inputs := rfl

/-! ### ADVANCE (`advance`) -/

@[simp] theorem advance_state (d : Direction) : (advance d s).state = s.state := rfl
@[simp] theorem advance_rotation (d : Direction) : (advance d s).rotation = s.rotation := rfl
@[simp] theorem advance_requestedRotation (d : Direction) : (advance d s).requestedRotation = s.requestedRotation := rfl
@[simp] theorem advance_savedRequestedRotation (d : Direction) : (advance d s).savedRequestedRotation = s.savedRequestedRotation := rfl
@[simp] theorem advance_direction (d : Direction) : (advance d s).direction = s.direction := rfl
@[simp] theorem advance_requestedDirection (d : Direction) : (advance d s).requestedDirection = s.requestedDirection := rfl
@[simp] theorem advance_started (d : Direction) : (advance d s).started = s.started := rfl
@[simp] theorem advance_fault (d : Direction) : (advance d s).fault = s.fault := rfl
@[simp] theorem advance_revLatch (d : Direction) : (advance d s).revLatch = s.revLatch := rfl
@[simp] theorem advance_duration (d : Direction) : (advance d s).duration = s.duration := rfl
@[simp] theorem advance_phase (d : Direction) : (advance d s).phase = nextPhase d s.phase := rfl
@[simp] theorem advance_phaseCnt (d : Direction) : (advance d s).phaseCnt = s.phaseCnt := rfl
@[simp] theorem advance_debounceCnt (d : Direction) : (advance d s).debounceCnt = s.debounceCnt := rfl
@[simp] theorem advance_pins (d : Direction) : (advance d s).pins = s.pins := rfl
@[simp] theorem advance_cfg (d : Direction) : (advance d s).cfg = s.cfg := rfl
@[simp] theorem advance_resp (d : Direction) : (advance d s).resp = s.resp := rfl
@[simp] theorem advance_inputs (d : Direction) : (advance d s).inputs = s.inputs := rfl

/-! ### the reload at expiry (`reloadPhaseCnt`) -/

@[simp] theorem reloadPhaseCnt_state : (reloadPhaseCnt s).state = s.state := rfl
@[simp] theorem reloadPhaseCnt_rotation : (reloadPhaseCnt s).rotation = s.rotation := rfl
@[simp] theorem reloadPhaseCnt_requestedRotation : (reloadPhaseCnt s).requestedRotation = s.requestedRotation := rfl
@[simp] theorem reloadPhaseCnt_savedRequestedRotation : (reloadPhaseCnt s).savedRequestedRotation = s.savedRequestedRotation := rfl
@[simp] theorem reloadPhaseCnt_direction : (reloadPhaseCnt s).direction = s.direction := rfl
@[simp] theorem reloadPhaseCnt_requestedDirection : (reloadPhaseCnt s).requestedDirection = s.requestedDirection := rfl
@[simp] theorem reloadPhaseCnt_started : (reloadPhaseCnt s).started = s.started := rfl
@[simp] theorem reloadPhaseCnt_fault : (reloadPhaseCnt s).fault = s.fault := rfl
@[simp] theorem reloadPhaseCnt_revLatch : (reloadPhaseCnt s).revLatch = s.revLatch := rfl
@[simp] theorem reloadPhaseCnt_duration : (reloadPhaseCnt s).duration = s.duration := rfl
@[simp] theorem reloadPhaseCnt_phase : (reloadPhaseCnt s).phase = s.phase := rfl
@[simp] theorem reloadPhaseCnt_phaseCnt : (reloadPhaseCnt s).phaseCnt = s.duration := rfl
@[simp] theorem reloadPhaseCnt_debounceCnt : (reloadPhaseCnt s).debounceCnt = s.debounceCnt := rfl
@[simp] theorem reloadPhaseCnt_pins : (reloadPhaseCnt s).pins = s.pins := rfl
@[simp] theorem reloadPhaseCnt_cfg : (reloadPhaseCnt s).cfg = s.cfg := rfl
@[simp] theorem reloadPhaseCnt_resp : (reloadPhaseCnt s).resp = s.resp := rfl
@[simp] theorem reloadPhaseCnt_inputs : (reloadPhaseCnt s).inputs = s.inputs := rfl

/-! ### the pin write (`writePins`) -/

@[simp] theorem writePins_state (p : PinPattern) : (writePins p s).state = s.state := rfl
@[simp] theorem writePins_rotation (p : PinPattern) : (writePins p s).rotation = s.rotation := rfl
@[simp] theorem writePins_requestedRotation (p : PinPattern) : (writePins p s).requestedRotation = s.requestedRotation := rfl
@[simp] theorem writePins_savedRequestedRotation (p : PinPattern) : (writePins p s).savedRequestedRotation = s.savedRequestedRotation := rfl
@[simp] theorem writePins_direction (p : PinPattern) : (writePins p s).direction = s.direction := rfl
@[simp] theorem writePins_requestedDirection (p : PinPattern) : (writePins p s).requestedDirection = s.requestedDirection := rfl
@[simp] theorem writePins_started (p : PinPattern) : (writePins p s).started = s.started := rfl
@[simp] theorem writePins_fault (p : PinPattern) : (writePins p s).fault = s.fault := rfl
@[simp] theorem writePins_revLatch (p : PinPattern) : (writePins p s).revLatch = s.revLatch := rfl
@[simp] theorem writePins_duration (p : PinPattern) : (writePins p s).duration = s.duration := rfl
@[simp] theorem writePins_phase (p : PinPattern) : (writePins p s).phase = s.phase := rfl
@[simp] theorem writePins_phaseCnt (p : PinPattern) : (writePins p s).phaseCnt = s.phaseCnt := rfl
@[simp] theorem writePins_debounceCnt (p : PinPattern) : (writePins p s).debounceCnt = s.debounceCnt := rfl
@[simp] theorem writePins_pins (p : PinPattern) : (writePins p s).pins = p := rfl
@[simp] theorem writePins_cfg (p : PinPattern) : (writePins p s).cfg = s.cfg := rfl
@[simp] theorem writePins_resp (p : PinPattern) : (writePins p s).resp = s.resp := rfl
@[simp] theorem writePins_inputs (p : PinPattern) : (writePins p s).inputs = s.inputs := rfl

/-! ### ARM (`arm`) -/

@[simp] theorem arm_state (p : Word16) : (arm p s).state = s.state := rfl
@[simp] theorem arm_rotation (p : Word16) : (arm p s).rotation = s.rotation := rfl
@[simp] theorem arm_requestedRotation (p : Word16) : (arm p s).requestedRotation = s.requestedRotation := rfl
@[simp] theorem arm_savedRequestedRotation (p : Word16) : (arm p s).savedRequestedRotation = s.savedRequestedRotation := rfl
@[simp] theorem arm_direction (p : Word16) : (arm p s).direction = s.direction := rfl
@[simp] theorem arm_requestedDirection (p : Word16) : (arm p s).requestedDirection = s.requestedDirection := rfl
@[simp] theorem arm_started (p : Word16) : (arm p s).started = s.started := rfl
@[simp] theorem arm_fault (p : Word16) : (arm p s).fault = s.fault := rfl
@[simp] theorem arm_revLatch (p : Word16) : (arm p s).revLatch = s.revLatch := rfl
@[simp] theorem arm_duration (p : Word16) : (arm p s).duration = p := rfl
@[simp] theorem arm_phase (p : Word16) : (arm p s).phase = s.phase := rfl
@[simp] theorem arm_phaseCnt (p : Word16) : (arm p s).phaseCnt = s.phaseCnt := rfl
@[simp] theorem arm_debounceCnt (p : Word16) : (arm p s).debounceCnt = s.debounceCnt := rfl
@[simp] theorem arm_pins (p : Word16) : (arm p s).pins = s.pins := rfl
@[simp] theorem arm_cfg (p : Word16) : (arm p s).cfg = s.cfg := rfl
@[simp] theorem arm_resp (p : Word16) : (arm p s).resp = s.resp := rfl
@[simp] theorem arm_inputs (p : Word16) : (arm p s).inputs = s.inputs := rfl

/-! ### `rotation <- v` (`writeRotation`) -/

@[simp] theorem writeRotation_state (v : Word16) : (writeRotation v s).state = s.state := rfl
@[simp] theorem writeRotation_rotation (v : Word16) : (writeRotation v s).rotation = v := rfl
@[simp] theorem writeRotation_requestedRotation (v : Word16) : (writeRotation v s).requestedRotation = s.requestedRotation := rfl
@[simp] theorem writeRotation_savedRequestedRotation (v : Word16) : (writeRotation v s).savedRequestedRotation = s.savedRequestedRotation := rfl
@[simp] theorem writeRotation_direction (v : Word16) : (writeRotation v s).direction = s.direction := rfl
@[simp] theorem writeRotation_requestedDirection (v : Word16) : (writeRotation v s).requestedDirection = s.requestedDirection := rfl
@[simp] theorem writeRotation_started (v : Word16) : (writeRotation v s).started = s.started := rfl
@[simp] theorem writeRotation_fault (v : Word16) : (writeRotation v s).fault = s.fault := rfl
@[simp] theorem writeRotation_revLatch (v : Word16) : (writeRotation v s).revLatch = s.revLatch := rfl
@[simp] theorem writeRotation_duration (v : Word16) : (writeRotation v s).duration = s.duration := rfl
@[simp] theorem writeRotation_phase (v : Word16) : (writeRotation v s).phase = s.phase := rfl
@[simp] theorem writeRotation_phaseCnt (v : Word16) : (writeRotation v s).phaseCnt = s.phaseCnt := rfl
@[simp] theorem writeRotation_debounceCnt (v : Word16) : (writeRotation v s).debounceCnt = s.debounceCnt := rfl
@[simp] theorem writeRotation_pins (v : Word16) : (writeRotation v s).pins = s.pins := rfl
@[simp] theorem writeRotation_cfg (v : Word16) : (writeRotation v s).cfg = s.cfg := rfl
@[simp] theorem writeRotation_resp (v : Word16) : (writeRotation v s).resp = s.resp := rfl
@[simp] theorem writeRotation_inputs (v : Word16) : (writeRotation v s).inputs = s.inputs := rfl

/-! ### `requested_rotation <- v` (`writeRequested`) -/

@[simp] theorem writeRequested_state (v : Word16) : (writeRequested v s).state = s.state := rfl
@[simp] theorem writeRequested_rotation (v : Word16) : (writeRequested v s).rotation = s.rotation := rfl
@[simp] theorem writeRequested_requestedRotation (v : Word16) : (writeRequested v s).requestedRotation = v := rfl
@[simp] theorem writeRequested_savedRequestedRotation (v : Word16) : (writeRequested v s).savedRequestedRotation = s.savedRequestedRotation := rfl
@[simp] theorem writeRequested_direction (v : Word16) : (writeRequested v s).direction = s.direction := rfl
@[simp] theorem writeRequested_requestedDirection (v : Word16) : (writeRequested v s).requestedDirection = s.requestedDirection := rfl
@[simp] theorem writeRequested_started (v : Word16) : (writeRequested v s).started = s.started := rfl
@[simp] theorem writeRequested_fault (v : Word16) : (writeRequested v s).fault = s.fault := rfl
@[simp] theorem writeRequested_revLatch (v : Word16) : (writeRequested v s).revLatch = s.revLatch := rfl
@[simp] theorem writeRequested_duration (v : Word16) : (writeRequested v s).duration = s.duration := rfl
@[simp] theorem writeRequested_phase (v : Word16) : (writeRequested v s).phase = s.phase := rfl
@[simp] theorem writeRequested_phaseCnt (v : Word16) : (writeRequested v s).phaseCnt = s.phaseCnt := rfl
@[simp] theorem writeRequested_debounceCnt (v : Word16) : (writeRequested v s).debounceCnt = s.debounceCnt := rfl
@[simp] theorem writeRequested_pins (v : Word16) : (writeRequested v s).pins = s.pins := rfl
@[simp] theorem writeRequested_cfg (v : Word16) : (writeRequested v s).cfg = s.cfg := rfl
@[simp] theorem writeRequested_resp (v : Word16) : (writeRequested v s).resp = s.resp := rfl
@[simp] theorem writeRequested_inputs (v : Word16) : (writeRequested v s).inputs = s.inputs := rfl

/-! ### `state <- e` (`goTo`) -/

@[simp] theorem goTo_state (e : EngineState) : (goTo e s).state = e := rfl
@[simp] theorem goTo_rotation (e : EngineState) : (goTo e s).rotation = s.rotation := rfl
@[simp] theorem goTo_requestedRotation (e : EngineState) : (goTo e s).requestedRotation = s.requestedRotation := rfl
@[simp] theorem goTo_savedRequestedRotation (e : EngineState) : (goTo e s).savedRequestedRotation = s.savedRequestedRotation := rfl
@[simp] theorem goTo_direction (e : EngineState) : (goTo e s).direction = s.direction := rfl
@[simp] theorem goTo_requestedDirection (e : EngineState) : (goTo e s).requestedDirection = s.requestedDirection := rfl
@[simp] theorem goTo_started (e : EngineState) : (goTo e s).started = s.started := rfl
@[simp] theorem goTo_fault (e : EngineState) : (goTo e s).fault = s.fault := rfl
@[simp] theorem goTo_revLatch (e : EngineState) : (goTo e s).revLatch = s.revLatch := rfl
@[simp] theorem goTo_duration (e : EngineState) : (goTo e s).duration = s.duration := rfl
@[simp] theorem goTo_phase (e : EngineState) : (goTo e s).phase = s.phase := rfl
@[simp] theorem goTo_phaseCnt (e : EngineState) : (goTo e s).phaseCnt = s.phaseCnt := rfl
@[simp] theorem goTo_debounceCnt (e : EngineState) : (goTo e s).debounceCnt = s.debounceCnt := rfl
@[simp] theorem goTo_pins (e : EngineState) : (goTo e s).pins = s.pins := rfl
@[simp] theorem goTo_cfg (e : EngineState) : (goTo e s).cfg = s.cfg := rfl
@[simp] theorem goTo_resp (e : EngineState) : (goTo e s).resp = s.resp := rfl
@[simp] theorem goTo_inputs (e : EngineState) : (goTo e s).inputs = s.inputs := rfl

/-! ### FaultTrap entry (`takeFaultTrap`) -/

@[simp] theorem takeFaultTrap_state : (takeFaultTrap s).state = .stopped := rfl
@[simp] theorem takeFaultTrap_rotation : (takeFaultTrap s).rotation = s.rotation := rfl
@[simp] theorem takeFaultTrap_requestedRotation : (takeFaultTrap s).requestedRotation = s.requestedRotation := rfl
@[simp] theorem takeFaultTrap_savedRequestedRotation : (takeFaultTrap s).savedRequestedRotation = s.savedRequestedRotation := rfl
@[simp] theorem takeFaultTrap_direction : (takeFaultTrap s).direction = s.direction := rfl
@[simp] theorem takeFaultTrap_requestedDirection : (takeFaultTrap s).requestedDirection = s.requestedDirection := rfl
@[simp] theorem takeFaultTrap_started : (takeFaultTrap s).started = s.started := rfl
@[simp] theorem takeFaultTrap_fault : (takeFaultTrap s).fault = true := rfl
@[simp] theorem takeFaultTrap_revLatch : (takeFaultTrap s).revLatch = s.revLatch := rfl
@[simp] theorem takeFaultTrap_duration : (takeFaultTrap s).duration = s.duration := rfl
@[simp] theorem takeFaultTrap_phase : (takeFaultTrap s).phase = s.phase := rfl
@[simp] theorem takeFaultTrap_phaseCnt : (takeFaultTrap s).phaseCnt = s.phaseCnt := rfl
@[simp] theorem takeFaultTrap_debounceCnt : (takeFaultTrap s).debounceCnt = s.debounceCnt := rfl
@[simp] theorem takeFaultTrap_pins : (takeFaultTrap s).pins = s.pins := rfl
@[simp] theorem takeFaultTrap_cfg : (takeFaultTrap s).cfg = s.cfg := rfl
@[simp] theorem takeFaultTrap_resp : (takeFaultTrap s).resp = s.resp := rfl
@[simp] theorem takeFaultTrap_inputs : (takeFaultTrap s).inputs = s.inputs := rfl

/-! ### the recovery by STOP (`acknowledgeStop`) -/

@[simp] theorem acknowledgeStop_state : (acknowledgeStop s).state = s.state := rfl
@[simp] theorem acknowledgeStop_rotation : (acknowledgeStop s).rotation = s.rotation := rfl
@[simp] theorem acknowledgeStop_requestedRotation : (acknowledgeStop s).requestedRotation = s.requestedRotation := rfl
@[simp] theorem acknowledgeStop_savedRequestedRotation : (acknowledgeStop s).savedRequestedRotation = s.savedRequestedRotation := rfl
@[simp] theorem acknowledgeStop_direction : (acknowledgeStop s).direction = s.direction := rfl
@[simp] theorem acknowledgeStop_requestedDirection : (acknowledgeStop s).requestedDirection = s.requestedDirection := rfl
@[simp] theorem acknowledgeStop_started : (acknowledgeStop s).started = false := rfl
@[simp] theorem acknowledgeStop_fault : (acknowledgeStop s).fault = false := rfl
@[simp] theorem acknowledgeStop_revLatch : (acknowledgeStop s).revLatch = s.revLatch := rfl
@[simp] theorem acknowledgeStop_duration : (acknowledgeStop s).duration = s.duration := rfl
@[simp] theorem acknowledgeStop_phase : (acknowledgeStop s).phase = s.phase := rfl
@[simp] theorem acknowledgeStop_phaseCnt : (acknowledgeStop s).phaseCnt = s.phaseCnt := rfl
@[simp] theorem acknowledgeStop_debounceCnt : (acknowledgeStop s).debounceCnt = s.debounceCnt := rfl
@[simp] theorem acknowledgeStop_pins : (acknowledgeStop s).pins = s.pins := rfl
@[simp] theorem acknowledgeStop_cfg : (acknowledgeStop s).cfg = s.cfg := rfl
@[simp] theorem acknowledgeStop_resp : (acknowledgeStop s).resp = s.resp := rfl
@[simp] theorem acknowledgeStop_inputs : (acknowledgeStop s).inputs = s.inputs := rfl

/-! ### START (`setStarted`) -/

@[simp] theorem setStarted_state : (setStarted s).state = s.state := rfl
@[simp] theorem setStarted_rotation : (setStarted s).rotation = s.rotation := rfl
@[simp] theorem setStarted_requestedRotation : (setStarted s).requestedRotation = s.requestedRotation := rfl
@[simp] theorem setStarted_savedRequestedRotation : (setStarted s).savedRequestedRotation = s.savedRequestedRotation := rfl
@[simp] theorem setStarted_direction : (setStarted s).direction = s.direction := rfl
@[simp] theorem setStarted_requestedDirection : (setStarted s).requestedDirection = s.requestedDirection := rfl
@[simp] theorem setStarted_started : (setStarted s).started = true := rfl
@[simp] theorem setStarted_fault : (setStarted s).fault = s.fault := rfl
@[simp] theorem setStarted_revLatch : (setStarted s).revLatch = s.revLatch := rfl
@[simp] theorem setStarted_duration : (setStarted s).duration = s.duration := rfl
@[simp] theorem setStarted_phase : (setStarted s).phase = s.phase := rfl
@[simp] theorem setStarted_phaseCnt : (setStarted s).phaseCnt = s.phaseCnt := rfl
@[simp] theorem setStarted_debounceCnt : (setStarted s).debounceCnt = s.debounceCnt := rfl
@[simp] theorem setStarted_pins : (setStarted s).pins = s.pins := rfl
@[simp] theorem setStarted_cfg : (setStarted s).cfg = s.cfg := rfl
@[simp] theorem setStarted_resp : (setStarted s).resp = s.resp := rfl
@[simp] theorem setStarted_inputs : (setStarted s).inputs = s.inputs := rfl

/-! ### SETDIR (`requestDirection`) -/

@[simp] theorem requestDirection_state (d : Direction) : (requestDirection d s).state = s.state := rfl
@[simp] theorem requestDirection_rotation (d : Direction) : (requestDirection d s).rotation = s.rotation := rfl
@[simp] theorem requestDirection_requestedRotation (d : Direction) : (requestDirection d s).requestedRotation = s.requestedRotation := rfl
@[simp] theorem requestDirection_savedRequestedRotation (d : Direction) : (requestDirection d s).savedRequestedRotation = s.savedRequestedRotation := rfl
@[simp] theorem requestDirection_direction (d : Direction) : (requestDirection d s).direction = s.direction := rfl
@[simp] theorem requestDirection_requestedDirection (d : Direction) : (requestDirection d s).requestedDirection = d := rfl
@[simp] theorem requestDirection_started (d : Direction) : (requestDirection d s).started = s.started := rfl
@[simp] theorem requestDirection_fault (d : Direction) : (requestDirection d s).fault = s.fault := rfl
@[simp] theorem requestDirection_revLatch (d : Direction) : (requestDirection d s).revLatch = s.revLatch := rfl
@[simp] theorem requestDirection_duration (d : Direction) : (requestDirection d s).duration = s.duration := rfl
@[simp] theorem requestDirection_phase (d : Direction) : (requestDirection d s).phase = s.phase := rfl
@[simp] theorem requestDirection_phaseCnt (d : Direction) : (requestDirection d s).phaseCnt = s.phaseCnt := rfl
@[simp] theorem requestDirection_debounceCnt (d : Direction) : (requestDirection d s).debounceCnt = s.debounceCnt := rfl
@[simp] theorem requestDirection_pins (d : Direction) : (requestDirection d s).pins = s.pins := rfl
@[simp] theorem requestDirection_cfg (d : Direction) : (requestDirection d s).cfg = s.cfg := rfl
@[simp] theorem requestDirection_resp (d : Direction) : (requestDirection d s).resp = s.resp := rfl
@[simp] theorem requestDirection_inputs (d : Direction) : (requestDirection d s).inputs = s.inputs := rfl

/-! ### the Init arm's resets (`resetEngine`) -/

@[simp] theorem resetEngine_state : (resetEngine s).state = s.state := rfl
@[simp] theorem resetEngine_rotation : (resetEngine s).rotation = 0#16 := rfl
@[simp] theorem resetEngine_requestedRotation : (resetEngine s).requestedRotation = 0#16 := rfl
@[simp] theorem resetEngine_savedRequestedRotation : (resetEngine s).savedRequestedRotation = 0#16 := rfl
@[simp] theorem resetEngine_direction : (resetEngine s).direction = .left := rfl
@[simp] theorem resetEngine_requestedDirection : (resetEngine s).requestedDirection = .left := rfl
@[simp] theorem resetEngine_started : (resetEngine s).started = false := rfl
@[simp] theorem resetEngine_fault : (resetEngine s).fault = false := rfl
@[simp] theorem resetEngine_revLatch : (resetEngine s).revLatch = false := rfl
@[simp] theorem resetEngine_duration : (resetEngine s).duration = 0#16 := rfl
@[simp] theorem resetEngine_phase : (resetEngine s).phase = 0#3 := rfl
@[simp] theorem resetEngine_phaseCnt : (resetEngine s).phaseCnt = s.phaseCnt := rfl
@[simp] theorem resetEngine_debounceCnt : (resetEngine s).debounceCnt = s.debounceCnt := rfl
@[simp] theorem resetEngine_pins : (resetEngine s).pins = s.pins := rfl
@[simp] theorem resetEngine_cfg : (resetEngine s).cfg = s.cfg := rfl
@[simp] theorem resetEngine_resp : (resetEngine s).resp = s.resp := rfl
@[simp] theorem resetEngine_inputs : (resetEngine s).inputs = s.inputs := rfl

/-! ### the Stopped arm's writes (`clearDrive`) -/

@[simp] theorem clearDrive_state : (clearDrive s).state = s.state := rfl
@[simp] theorem clearDrive_rotation : (clearDrive s).rotation = 0#16 := rfl
@[simp] theorem clearDrive_requestedRotation : (clearDrive s).requestedRotation = 0#16 := rfl
@[simp] theorem clearDrive_savedRequestedRotation : (clearDrive s).savedRequestedRotation = s.savedRequestedRotation := rfl
@[simp] theorem clearDrive_direction : (clearDrive s).direction = s.direction := rfl
@[simp] theorem clearDrive_requestedDirection : (clearDrive s).requestedDirection = s.requestedDirection := rfl
@[simp] theorem clearDrive_started : (clearDrive s).started = false := rfl
@[simp] theorem clearDrive_fault : (clearDrive s).fault = s.fault := rfl
@[simp] theorem clearDrive_revLatch : (clearDrive s).revLatch = s.revLatch := rfl
@[simp] theorem clearDrive_duration : (clearDrive s).duration = s.duration := rfl
@[simp] theorem clearDrive_phase : (clearDrive s).phase = s.phase := rfl
@[simp] theorem clearDrive_phaseCnt : (clearDrive s).phaseCnt = s.phaseCnt := rfl
@[simp] theorem clearDrive_debounceCnt : (clearDrive s).debounceCnt = s.debounceCnt := rfl
@[simp] theorem clearDrive_pins : (clearDrive s).pins = s.pins := rfl
@[simp] theorem clearDrive_cfg : (clearDrive s).cfg = s.cfg := rfl
@[simp] theorem clearDrive_resp : (clearDrive s).resp = s.resp := rfl
@[simp] theorem clearDrive_inputs : (clearDrive s).inputs = s.inputs := rfl

/-! ### the Reversing commit (`commitReversal`) -/

@[simp] theorem commitReversal_state : (commitReversal s).state = s.state := rfl
@[simp] theorem commitReversal_rotation : (commitReversal s).rotation = s.rotation := rfl
@[simp] theorem commitReversal_requestedRotation : (commitReversal s).requestedRotation = s.savedRequestedRotation := rfl
@[simp] theorem commitReversal_savedRequestedRotation : (commitReversal s).savedRequestedRotation = s.savedRequestedRotation := rfl
@[simp] theorem commitReversal_direction : (commitReversal s).direction = s.requestedDirection := rfl
@[simp] theorem commitReversal_requestedDirection : (commitReversal s).requestedDirection = s.requestedDirection := rfl
@[simp] theorem commitReversal_started : (commitReversal s).started = true := rfl
@[simp] theorem commitReversal_fault : (commitReversal s).fault = s.fault := rfl
@[simp] theorem commitReversal_revLatch : (commitReversal s).revLatch = false := rfl
@[simp] theorem commitReversal_duration : (commitReversal s).duration = s.duration := rfl
@[simp] theorem commitReversal_phase : (commitReversal s).phase = 0#3 := rfl
@[simp] theorem commitReversal_phaseCnt : (commitReversal s).phaseCnt = s.phaseCnt := rfl
@[simp] theorem commitReversal_debounceCnt : (commitReversal s).debounceCnt = s.debounceCnt := rfl
@[simp] theorem commitReversal_pins : (commitReversal s).pins = s.pins := rfl
@[simp] theorem commitReversal_cfg : (commitReversal s).cfg = s.cfg := rfl
@[simp] theorem commitReversal_resp : (commitReversal s).resp = s.resp := rfl
@[simp] theorem commitReversal_inputs : (commitReversal s).inputs = s.inputs := rfl

end Sys2Proof.Machine
end

