-- ==== Sys2Proof/Laws/Ops.lean ====
section
/-! SUPPORT. One lemma per shared operation, saying everything it can do; the provers cite these instead of unfolding
the operation. -/
namespace Sys2Proof.Machine

/-! ## Countdowns and phase -/

/-- A countdown loses one and saturates at 0. -/
theorem countDown_toNat (c : Word16) : (countDown c).toNat = c.toNat - 1 := by
  unfold countDown
  split
  · next h => subst h; rfl
  · next h =>
    have : c.toNat ≠ 0 := fun h0 => h (BitVec.eq_of_toNat_eq h0)
    bv_omega

theorem countDown_le (c : Word16) : countDown c ≤ c := by
  rw [BitVec.le_def, countDown_toNat]
  omega

theorem nextPhase_right_toNat (ph : PhaseIndex) : (nextPhase .right ph).toNat = (ph.toNat + 1) % 6 := by
  simp only [nextPhase, BitVec.toNat_ofNat]
  omega

theorem nextPhase_left_toNat (ph : PhaseIndex) : (nextPhase .left ph).toNat = (ph.toNat + 5) % 6 := by
  simp only [nextPhase, BitVec.toNat_ofNat]
  omega

/-- ADVANCE never leaves the table. -/
theorem nextPhase_le (d : Direction) (ph : PhaseIndex) : (nextPhase d ph).toNat ≤ 5 := by
  cases d
  · rw [nextPhase_left_toNat]; omega
  · rw [nextPhase_right_toNat]; omega

/-! ## Output -/

theorem output_at_standstill (t : CommTable) (ph : PhaseIndex) : output t ph 0#16 = 0#6 := rfl

theorem output_outside (t : CommTable) (ph : PhaseIndex) (rot : Word16) (h : 5 < ph.toNat) :
    output t ph rot = 0#6 := by
  have : tableEntry t ph = none := by
    simp only [tableEntry, CommTable.entries]
    exact List.getElem?_eq_none h
  unfold output
  rw [this]
  split <;> rfl

/-- OUTPUT gives 0 or an entry of the table. -/
theorem output_eq_zero_or_mem (t : CommTable) (ph : PhaseIndex) (rot : Word16) :
    output t ph rot = 0#6 ∨ output t ph rot ∈ t.entries := by
  unfold output
  split
  · exact .inl rfl
  · cases h : tableEntry t ph with
    | none => exact .inl rfl
    | some p => exact .inr (List.mem_of_getElem? h)

/-- With a legal table OUTPUT activates no line or two. -/
theorem activeLines_output (t : CommTable) (ph : PhaseIndex) (rot : Word16) (h : t.legal) :
    activeLines (output t ph rot) = 0 ∨ activeLines (output t ph rot) = 2 := by
  rcases output_eq_zero_or_mem t ph rot with h0 | hm
  · rw [h0]; exact .inl rfl
  · exact .inr (h _ hm)

/-! ## Speed and period -/

theorem period_zero : period 0#16 = none := rfl

theorem period_of_ne_zero (r : Word16) (h : r ≠ 0#16) : period r = some (periodFormula r) := by
  simp [period, periodFormula, h]

theorem periodFormula_toNat (r : Word16) (h : r ≠ 0#16) : (periodFormula r).toNat = 10000 / r.toNat := by
  have hr : r.toNat ≠ 0 := fun h0 => h (BitVec.eq_of_toNat_eq h0)
  have hle : 10000 / r.toNat ≤ 10000 := Nat.div_le_self _ _
  have heq : 60000 / (r.toNat * 6) = 10000 / r.toNat := by
    rw [Nat.mul_comm, ← Nat.div_div_eq_div_mul]
  rw [periodFormula, BitVec.toNat_ofNat, heq]
  exact Nat.mod_eq_of_lt (by omega)

theorem armPeriod_of_ne_zero (r : Word16) (s : State) (h : r ≠ 0#16) :
    armPeriod r s = .next (arm (periodFormula r) s) := by
  simp [armPeriod, period_of_ne_zero r h]

/-- SetRotation always answers a next state: the speed, and with a nonzero speed its period. -/
theorem setRotation_eq (v : Word16) (s : State) :
    setRotation v s =
      .next { s with rotation := v, duration := if v = 0#16 then s.duration else periodFormula v } := by
  unfold setRotation
  by_cases h : v = 0#16
  · simp [h, writeRotation]
  · simp [h, armPeriod_of_ne_zero v _ h, arm, writeRotation]

theorem setRotation_of_ne_zero (v : Word16) (s : State) (h : v ≠ 0#16) :
    setRotation v s = .next { s with rotation := v, duration := periodFormula v } := by
  rw [setRotation_eq, if_neg h]

/-- The clamp of a nonzero operand, as a number. -/
theorem clampSpeed_toNat (c : Config) (v : Word16) (h : v ≠ 0#16) :
    (clampSpeed c v).toNat = min (max v.toNat c.speedMin.toNat) c.speedMax.toNat := by
  simp only [clampSpeed, if_neg h, BitVec.lt_def]
  split <;> split <;> omega

/-- A clamped speed is legal in a legal configuration. -/
theorem clampSpeed_legal (c : Config) (v : Word16) (h : c.speedBoundsLegal) : legalSpeed c (clampSpeed c v) := by
  have h1 : c.speedMin ≤ c.speedMax := BitVec.le_def.mpr h.2.1
  unfold clampSpeed
  split
  · exact .inl rfl
  · refine .inr ?_
    simp only
    split <;> split <;> constructor <;> bv_omega

/-! ## The Debounce Gate -/

theorem accept_open (e : RawEvent) (s : State) (h : s.debounceCnt = 0#16) :
    accept e s = (some e, { s with debounceCnt := s.cfg.debounceMs }) := by
  simp [accept, h]

theorem accept_closed (e : RawEvent) (s : State) (h : s.debounceCnt ≠ 0#16) : accept e s = (none, s) := by
  simp [accept, h]

theorem classify_key (keys : KeyCodes) (k : KeyByte) (h : k ∈ keys.codes) : classify keys k = some (.key k) := by
  simp [classify, h]

theorem classify_noKey (keys : KeyCodes) (k : KeyByte) (h : k ∉ keys.codes) : classify keys k = none := by
  simp [classify, h]

/-! ## Updates with a case -/

theorem captureReversal_first (s : State) (h : s.revLatch = false) :
    captureReversal s = { s with savedRequestedRotation := s.requestedRotation, revLatch := true } := by
  simp [captureReversal, h]

theorem captureReversal_again (s : State) (h : s.revLatch = true) : captureReversal s = s := by
  simp [captureReversal, h]

theorem expirePhase_of_expired (s : State) (h : phaseExpired s) :
    expirePhase s = { s with phase := nextPhase s.direction s.phase, phaseCnt := s.duration } := by
  rw [expirePhase, if_pos h]
  rfl

theorem expirePhase_of_not (s : State) (h : ¬ phaseExpired s) : expirePhase s = s := by
  rw [expirePhase, if_neg h]

/-! ## Runs of operations -/

theorem execAll_cons {i : Instr} {s t : State} (rest : List Instr) (h : exec i s = .next t) :
    execAll (i :: rest) s = execAll rest t := by
  simp [execAll, h]

/-- A run of two lists is the run of the second from where the first ends. -/
theorem execAll_append {xs ys : List Instr} {s t : State} (h : execAll xs s = .next t) :
    execAll (xs ++ ys) s = execAll ys t := by
  induction xs generalizing s with
  | nil => simp only [execAll, Host.Outcome.next.injEq] at h; simp [h]
  | cons i rest ih =>
    cases hi : exec i s with
    | next u => rw [execAll_cons rest hi] at h; rw [List.cons_append, execAll_cons _ hi]; exact ih h
    | fault r => simp [execAll, hi] at h
    | refused r => simp [execAll, hi] at h

end Sys2Proof.Machine
end

