-- ==== Sys2Proof/Laws/Engine.lean ====
section
/-! SUPPORT. Everything a STEP can do, said once (the rows of the diagram of 42_engine.md R123, with the whole next
state of each), and that a STEP always does one of them. -/
namespace Sys2Proof.Machine

/-- The rows of R123 with their whole effect: `EngineRow s t` says that some row takes `s` to `t`. -/
inductive EngineRow (s : State) : State → Prop
  | init
      (h : s.state = .init ∨ s.state = .unused5 ∨ s.state = .unused6 ∨ s.state = .unused7) :
      EngineRow s
        { s with
          phase := 0#3, direction := .left, rotation := 0#16, requestedRotation := 0#16, started := false,
          fault := false, requestedDirection := .left, savedRequestedRotation := 0#16, revLatch := false,
          duration := 0#16, state := .ready, resp := .none }
  | readyCapture (h : s.state = .ready) (hd : directionMismatch s) (hl : s.revLatch = false) :
      EngineRow s
        { s with
          savedRequestedRotation := s.requestedRotation, revLatch := true, state := .reversing, resp := .none }
  | readyAgain (h : s.state = .ready) (hd : directionMismatch s) (hl : s.revLatch = true) :
      EngineRow s { s with state := .reversing, resp := .none }
  | readySeed (h : s.state = .ready) (hd : ¬ directionMismatch s) (hr : runCondition s) (h0 : s.rotation = 0#16) :
      EngineRow s { s with rotation := 1#16, duration := periodFormula 1#16, resp := .none }
  | readyRun (h : s.state = .ready) (hd : ¬ directionMismatch s) (hr : runCondition s) (h0 : s.rotation ≠ 0#16) :
      EngineRow s { s with duration := periodFormula s.rotation, state := .rotating, resp := .none }
  | readyIdle (h : s.state = .ready) (hd : ¬ directionMismatch s) (hr : ¬ runCondition s) :
      EngineRow s { s with rotation := 0#16, resp := .none }
  | stopDone (h : s.state = .rotating) (hs : stopTest s) (h0 : s.rotation = 0#16) :
      EngineRow s { s with state := .stopped, resp := .none }
  | stopRamp (h : s.state = .rotating) (hs : stopTest s) (h0 : s.rotation ≠ 0#16) :
      EngineRow s
        { s with
          rotation := s.rotation - 1#16,
          duration := if s.rotation - 1#16 = 0#16 then s.duration else periodFormula (s.rotation - 1#16),
          resp := .none }
  | rotatingCapture (h : s.state = .rotating) (hs : ¬ stopTest s) (hn : newReversal s) :
      EngineRow s
        { s with
          savedRequestedRotation := s.requestedRotation, revLatch := true, state := .reversing, resp := .none }
  | rampUp (h : s.state = .rotating) (hs : ¬ stopTest s) (hn : ¬ newReversal s)
      (hlt : s.rotation < s.requestedRotation) :
      EngineRow s
        { s with
          rotation := s.rotation + 1#16, duration := periodFormula (s.rotation + 1#16), state := .ready,
          resp := .none }
  | rampDown (h : s.state = .rotating) (hs : ¬ stopTest s) (hn : ¬ newReversal s)
      (hgt : s.requestedRotation < s.rotation) :
      EngineRow s
        { s with
          rotation := s.rotation - 1#16,
          duration := if s.rotation - 1#16 = 0#16 then s.duration else periodFormula (s.rotation - 1#16),
          state := .ready, resp := .none }
  | steady (h : s.state = .rotating) (hs : ¬ stopTest s) (hn : ¬ newReversal s)
      (he : s.rotation = s.requestedRotation) :
      EngineRow s { s with resp := .none }
  | stopped (h : s.state = .stopped) :
      EngineRow s
        { s with started := false, requestedRotation := 0#16, rotation := 0#16, state := .ready, resp := .none }
  | reversingTarget (h : s.state = .reversing) (h0 : s.rotation ≠ 0#16) :
      EngineRow s { s with requestedRotation := 0#16, state := .rotating, resp := .none }
  | commit (h : s.state = .reversing) (h0 : s.rotation = 0#16) :
      EngineRow s
        { s with
          direction := s.requestedDirection, requestedRotation := s.savedRequestedRotation, phase := 0#3,
          started := true, revLatch := false, state := .rotating, resp := .none }

theorem capture_row (s : State) (e : EngineState) (hl : s.revLatch = false) :
    goTo e (captureReversal (respond .none s)) =
      { s with savedRequestedRotation := s.requestedRotation, revLatch := true, state := e, resp := .none } := by
  rw [captureReversal_first _ (by simpa using hl)]
  rfl

/-- The Ready arm takes one of its rows. -/
theorem armReady_row (s : State) (h : s.state = .ready) :
    ∃ t, armReady (respond .none s) = .next t ∧ EngineRow s t := by
  by_cases hd : directionMismatch s
  · have h1 : armReady (respond .none s) = .next (goTo .reversing (captureReversal (respond .none s))) := if_pos hd
    cases hl : s.revLatch
    · exact ⟨_, h1.trans (congrArg _ (capture_row s _ hl)), .readyCapture h hd hl⟩
    · rw [captureReversal_again _ (by simpa using hl)] at h1
      exact ⟨_, h1, .readyAgain h hd hl⟩
  · by_cases hr : runCondition s
    · by_cases h0 : s.rotation = 0#16
      · exact ⟨_, (if_neg hd).trans ((if_pos hr).trans ((if_pos h0).trans (setRotation_eq _ _))),
          .readySeed h hd hr h0⟩
      · exact ⟨_, (if_neg hd).trans ((if_pos hr).trans ((if_neg h0).trans (armPeriod_of_ne_zero _ _ h0))),
          .readyRun h hd hr h0⟩
    · exact ⟨_, (if_neg hd).trans (if_neg hr), .readyIdle h hd hr⟩

/-- The Rotating arm takes one of its rows. -/
theorem armRotating_row (s : State) (h : s.state = .rotating) :
    ∃ t, armRotating (respond .none s) = .next t ∧ EngineRow s t := by
  by_cases hs : stopTest s
  · by_cases h0 : s.rotation = 0#16
    · exact ⟨_, (if_pos hs).trans (if_pos h0), .stopDone h hs h0⟩
    · exact ⟨_, (if_pos hs).trans ((if_neg h0).trans (setRotation_eq _ _)), .stopRamp h hs h0⟩
  · by_cases hn : newReversal s
    · exact ⟨_, (if_neg hs).trans ((if_pos hn).trans (congrArg _ (capture_row s _ hn.2))),
        .rotatingCapture h hs hn⟩
    · by_cases hlt : s.rotation < s.requestedRotation
      · have hne : s.rotation + 1#16 ≠ 0#16 := by bv_omega
        exact ⟨_, (if_neg hs).trans ((if_neg hn).trans ((if_pos hlt).trans (setRotation_of_ne_zero _ _ hne))),
          .rampUp h hs hn hlt⟩
      · by_cases hgt : s.requestedRotation < s.rotation
        · exact ⟨_, (if_neg hs).trans ((if_neg hn).trans ((if_neg hlt).trans ((if_pos hgt).trans
            (setRotation_eq _ _)))), .rampDown h hs hn hgt⟩
        · exact ⟨_, (if_neg hs).trans ((if_neg hn).trans ((if_neg hlt).trans (if_neg hgt))),
            .steady h hs hn (by bv_omega)⟩

/-- The Reversing arm takes one of its rows. -/
theorem armReversing_row (s : State) (h : s.state = .reversing) :
    ∃ t, armReversing (respond .none s) = .next t ∧ EngineRow s t := by
  by_cases h0 : s.rotation = 0#16
  · exact ⟨_, if_pos h0, .commit h h0⟩
  · exact ⟨_, if_neg h0, .reversingTarget h h0⟩

/-- A STEP always answers a next state, by a row of the diagram. -/
theorem execStep_row (s : State) : ∃ t, execStep s = .next t ∧ EngineRow s t := by
  cases h : s.state with
  | init => exact ⟨_, by simp only [execStep, runArm, respond_state, h]; rfl, .init (.inl h)⟩
  | ready => simpa only [execStep, runArm, respond_state, h] using armReady_row s h
  | rotating => simpa only [execStep, runArm, respond_state, h] using armRotating_row s h
  | stopped => exact ⟨_, by simp only [execStep, runArm, respond_state, h]; rfl, .stopped h⟩
  | reversing => simpa only [execStep, runArm, respond_state, h] using armReversing_row s h
  | unused5 => exact ⟨_, by simp only [execStep, runArm, respond_state, h]; rfl, .init (.inr (.inl h))⟩
  | unused6 => exact ⟨_, by simp only [execStep, runArm, respond_state, h]; rfl, .init (.inr (.inr (.inl h)))⟩
  | unused7 => exact ⟨_, by simp only [execStep, runArm, respond_state, h]; rfl, .init (.inr (.inr (.inr h)))⟩

/-- Inversion of STEP: whatever it answers, a row of the diagram took it there. -/
theorem execStep_cases {s t : State} (h : exec .step s = .next t) : EngineRow s t := by
  obtain ⟨u, hu, hr⟩ := execStep_row s
  have he : (Host.Outcome.next u : Host.Outcome State Fault Refusal) = .next t := hu.symm.trans h
  cases he
  exact hr

/-! ## The other operations with a case -/

/-- Everything a TICK does: on expiry the phase moves and the counter is reloaded, else both countdowns only. -/
theorem execTick_eq (s : State) :
    execTick s = .next
      (if phaseExpired (countDownTimers s) then
        { s with
          debounceCnt := countDown s.debounceCnt, phaseCnt := s.duration, phase := nextPhase s.direction s.phase,
          resp := .none }
      else
        { s with
          debounceCnt := countDown s.debounceCnt, phaseCnt := countDown s.phaseCnt, resp := .none }) := by
  unfold execTick
  split
  · next h => rw [expirePhase_of_expired _ h]; rfl
  · next h => rw [expirePhase_of_not _ h]; rfl

/-- Everything a KEYIN does. -/
theorem execKeyin_eq (k : KeyByte) (s : State) :
    execKeyin k s = .next
      (if k ∈ s.cfg.keys.codes ∧ s.debounceCnt = 0#16 then
        { s with debounceCnt := s.cfg.debounceMs, resp := .event k }
      else { s with resp := .none }) := by
  by_cases hk : k ∈ s.cfg.keys.codes
  · by_cases h0 : s.debounceCnt = 0#16
    · simp only [execKeyin, classify_key _ _ hk, accept_open _ _ h0, if_pos (And.intro hk h0)]; rfl
    · simp only [execKeyin, classify_key _ _ hk, accept_closed _ _ h0, if_neg fun h => h0 (And.right h)]; rfl
  · simp only [execKeyin, classify_noKey _ _ hk, if_neg fun h => hk (And.left h)]; rfl

/-- Everything an FSAMPLE does. -/
theorem execFsample_eq (b : Bool) (s : State) :
    execFsample b s = .next
      (if b = true ∧ s.debounceCnt = 0#16 then
        { s with debounceCnt := s.cfg.debounceMs, fault := true, state := .stopped, resp := .accepted }
      else { s with resp := .none }) := by
  cases b
  · rfl
  · by_cases h0 : s.debounceCnt = 0#16
    · simp only [execFsample, if_true, accept_open _ _ h0, h0, and_self]; rfl
    · simp only [execFsample, if_true, accept_closed _ _ h0, h0, and_false, if_false]; rfl

end Sys2Proof.Machine
end

