-- ==== Sys2Proof/Laws/PerInstr.lean ====
section
/-! SUPPORT. Statements about every operation as syntax, one lemma per constructor: the canonical word of an operation
has its opcode in bits 19:16, and its unused operand bits zero (30_encoding.md R70, R73, R75). -/
namespace Sys2Proof.Laws.CanonicalWord

/-- The word of `i` lies in the row of `i` and has no bit set that the format of `i` ignores. -/
def Statement (i : Instr) : Prop :=
  opcodeOf (encode i) = i.opcode ∧ operandV (encode i) &&& i.format.ignoredBits = 0

/-- The two fields of a word put together are read back. -/
theorem fields_of_append (op : BitVec 4) (a : BitVec 16) :
    opcodeOf (op ++ a) = op ∧ operandV (op ++ a) = a := by
  constructor
  · ext j hj
    simp only [opcodeOf, BitVec.getElem_extractLsb', BitVec.getLsbD_append]
    simp [hj, show ¬ 16 + j < 16 by omega]
  · ext j hj
    simp only [operandV, BitVec.getElem_extractLsb', BitVec.getLsbD_append]
    simp [hj]

/-- The family's statement from a fact about the operand field alone. -/
theorem of_arg (i : Instr) (h : i.arg &&& i.format.ignoredBits = 0) : Statement i := by
  have := fields_of_append i.opcode i.arg
  exact ⟨this.1, by rw [encode, this.2]; exact h⟩

theorem nop : Statement .nop := of_arg _ rfl
theorem tick : Statement .tick := of_arg _ rfl
theorem step : Statement .step := of_arg _ rfl
theorem out : Statement .out := of_arg _ rfl
theorem fsample (b : Bool) : Statement (.fsample b) := of_arg _ (by cases b <;> rfl)
theorem keyin (k : KeyByte) : Statement (.keyin k) :=
  of_arg _ (by
    simp only [Instr.arg, Instr.format, Format.ignoredBits]
    revert k
    decide)
theorem start : Statement .start := of_arg _ rfl
theorem stop : Statement .stop := of_arg _ rfl
theorem setspd (v : Word16) : Statement (.setspd v) := of_arg _ (by simp [Instr.arg, Instr.format, Format.ignoredBits])
theorem setdir (b : Bool) : Statement (.setdir b) := of_arg _ (by cases b <;> rfl)

end Sys2Proof.Laws.CanonicalWord
end

