-- ==== Sys2Proof/Laws/Step.lean ====
section
/-! SUPPORT. What a step can do, said once: the cases of `fetch` and the inversion of `step`. -/
namespace Sys2Proof.Machine

theorem fetch_of_op {s : State} {w : OpWord} {i : Instr} {rest : List Input} (hc : s.cfg.legal)
    (hi : s.inputs = .op w :: rest) (hd : decode w = .op i) : fetch s = .run i { s with inputs := rest } := by
  simp only [fetch, if_pos hc, hi, hd]

theorem fetch_of_reserved {s : State} {w : OpWord} {op : BitVec 4} {rest : List Input} (hc : s.cfg.legal)
    (hi : s.inputs = .op w :: rest) (hd : decode w = .reserved op) :
    fetch s = .reserved { s with inputs := rest } := by
  simp only [fetch, if_pos hc, hi, hd]

theorem fetch_of_withTick {s : State} {w : OpWord} {rest : List Input} (hc : s.cfg.legal)
    (hi : s.inputs = .withTick w :: rest) : fetch s = .run .tick { s with inputs := .op w :: rest } := by
  simp only [fetch, if_pos hc, hi]

theorem fetch_of_reset {s : State} {rest : List Input} (hc : s.cfg.legal) (hi : s.inputs = .reset :: rest) :
    fetch s = .reset { State.resetFor s.cfg with inputs := rest } := by
  simp only [fetch, if_pos hc, hi]

theorem fetch_of_nothing {s : State} (hc : s.cfg.legal) (hi : s.inputs = []) : fetch s = .idle s := by
  simp only [fetch, if_pos hc, hi]

theorem fetch_of_illegal {s : State} (hc : ¬ s.cfg.legal) : fetch s = .illegal := by
  rw [fetch, if_neg hc]

/-- Everything a step that answers a next state can have done: nothing presented, a reset, a reserved word, or one
operation in the state with the rest of the stream. -/
theorem step_cases {s t : State} (h : step s = .next t) :
    s.cfg.legal ∧
      (t = s ∨ (∃ ins, t = { State.resetFor s.cfg with inputs := ins }) ∨
        (∃ ins, t = { s with resp := .none, inputs := ins }) ∨
        ∃ i ins, exec i { s with inputs := ins } = .next t) := by
  by_cases hc : s.cfg.legal
  · refine ⟨hc, ?_⟩
    cases hi : s.inputs with
    | nil =>
      simp only [step, fetch_of_nothing hc hi, Host.Outcome.next.injEq] at h
      exact .inl h.symm
    | cons p rest =>
      cases p with
      | op w =>
        cases hd : decode w with
        | op i =>
          simp only [step, fetch_of_op hc hi hd] at h
          exact .inr (.inr (.inr ⟨i, rest, h⟩))
        | reserved o =>
          simp only [step, fetch_of_reserved hc hi hd, reservedNoOp, respond, Host.Outcome.next.injEq] at h
          exact .inr (.inr (.inl ⟨rest, h.symm⟩))
      | withTick w =>
        simp only [step, fetch_of_withTick hc hi] at h
        exact .inr (.inr (.inr ⟨.tick, _, h⟩))
      | reset =>
        simp only [step, fetch_of_reset hc hi, Host.Outcome.next.injEq] at h
        exact .inr (.inl ⟨rest, h.symm⟩)
  · simp [step, fetch_of_illegal hc] at h

end Sys2Proof.Machine
end

