-- ==== Sys2Proof/Tests/Slice0.lean ====
section
/-! SUPPORT. Tests, each a named theorem. Expected values come from spec/95_test_vectors.md (the vector's id stands before
the test) or from the rule cited; the witnesses show that the hypotheses of the obligations can be met. -/
open Sys2Proof Sys2Proof.Machine
namespace Sys2Proof.Tests

/-- A block of configuration CFG-SMALL (00_scope.md R11) right after reset. -/
def small : State := State.resetFor Config.cfgSmall

/-- The Engine part that most vectors name: `state(rot, req, sav | ...)`, everything else as after reset. -/
def engine (e : EngineState) (rot req sav : Word16) : State :=
  { small with state := e, rotation := rot, requestedRotation := req, savedRequestedRotation := sav }

/-- The next state, where there is one. -/
def after : Host.Outcome State Fault Refusal → Option State
  | .next t => some t
  | .fault _ => none
  | .refused _ => none

/-- What a refusing step answers. -/
def refusal : Host.Outcome State Fault Refusal → Option Refusal
  | .next _ => none
  | .fault _ => none
  | .refused r => some r

/-! ## WellFormed: an ill-formed term for each check, refused -/

theorem test_wf_fsample_range : (ScriptOp.fsample 1).wellFormed = true ∧ (ScriptOp.fsample 2).wellFormed = false := by decide
theorem test_wf_keyin_range : (ScriptOp.keyin 255).wellFormed = true ∧ (ScriptOp.keyin 256).wellFormed = false := by decide
theorem test_wf_setspd_range :
    (ScriptOp.setspd 65535).wellFormed = true ∧ (ScriptOp.setspd 65536).wellFormed = false := by decide
theorem test_wf_setdir_range : (ScriptOp.setdir 1).wellFormed = true ∧ (ScriptOp.setdir 2).wellFormed = false := by decide
theorem test_wf_pass_bit :
    (ScriptLine.pass 1 64 none).wellFormed = true ∧ (ScriptLine.pass 2 64 none).wellFormed = false := by decide
theorem test_wf_pass_key : (ScriptLine.pass 1 256 none).wellFormed = false := by decide
theorem test_wf_pass_bit_with_command : (ScriptLine.pass 2 64 (some .stop)).wellFormed = false := by decide
theorem test_wf_pass_key_with_command : (ScriptLine.pass 0 256 (some .stop)).wellFormed = false := by decide
theorem test_wf_pass_command_range :
    (ScriptLine.pass 0 0 (some (.setspd 7))).wellFormed = true ∧
      (ScriptLine.pass 0 0 (some (.setspd 65536))).wellFormed = false := by decide
theorem test_wf_pass_only_host_commands :
    (ScriptLine.pass 0 0 (some .nop)).wellFormed = false ∧ (ScriptLine.pass 0 0 (some .step)).wellFormed = false := by
  decide
theorem test_wf_line_op : (ScriptLine.op (.fsample 2)).wellFormed = false ∧ scriptWords (.op (.fsample 2)) = none := by
  decide
/-- Every operation as syntax is well-formed; the largest operands are. -/
theorem test_wf_instr :
    (Instr.fsample true).wellFormed ∧ (Instr.keyin 0xFF#8).wellFormed ∧ (Instr.setspd 0xFFFF#16).wellFormed := by decide

/-- The two configurations of 00_scope.md R11 are legal. -/
theorem test_reference_configs_legal : Config.cfgRef.legal ∧ Config.cfgSmall.legal := by decide
theorem test_config_speed_min : ¬ ({ Config.cfgSmall with speedMin := 0#16 } : Config).legal := by decide
theorem test_config_speed_order : ¬ ({ Config.cfgSmall with speedMin := 101#16 } : Config).legal := by decide
theorem test_config_speed_max :
    ({ Config.cfgSmall with speedMax := 10000#16 } : Config).legal ∧
      ¬ ({ Config.cfgSmall with speedMax := 10001#16 } : Config).legal := by decide
theorem test_config_window : ¬ ({ Config.cfgSmall with debounceMs := 0#16 } : Config).legal := by decide
theorem test_config_table :
    ¬ ({ Config.cfgSmall with commTable := { CommTable.default with entry5 := 0x1A#6 } } : Config).legal := by decide
theorem test_config_keys_distinct :
    ¬ ({ Config.cfgSmall with keys := { KeyCodes.default with esc := 0x08#8 } } : Config).legal := by decide
theorem test_config_keys_no_sentinel :
    ¬ ({ Config.cfgSmall with keys := { KeyCodes.default with esc := 0x00#8 } } : Config).legal ∧
      ¬ ({ Config.cfgSmall with keys := { KeyCodes.default with stop := 0xFF#8 } } : Config).legal := by decide

/-! ## Decoding: vectors W1 to W23 of 95_test_vectors.md 2.1 -/

theorem test_decode_nop : decode 0b0000_0000000000000000#20 = .op .nop := by decide
theorem test_decode_tick : decode 0b0001_0000000000000000#20 = .op .tick ∧ decode 0x1ABCD#20 = .op .tick := by decide
theorem test_decode_step : decode 0b0010_0000000000000000#20 = .op .step ∧ decode 0x2FFFF#20 = .op .step := by decide
theorem test_decode_out : decode 0b0011_0000000000000000#20 = .op .out := by decide
theorem test_decode_fsample :
    decode 0b0100_0000000000000000#20 = .op (.fsample false) ∧ decode 0b0100_0000000000000001#20 = .op (.fsample true) ∧
      decode 0x40003#20 = .op (.fsample true) ∧ decode 0x4FFFE#20 = .op (.fsample false) := by decide
theorem test_decode_keyin :
    decode 0b0101_0000000001000000#20 = .op (.keyin 0x40#8) ∧ decode 0x5FF40#20 = .op (.keyin 0x40#8) ∧
      decode 0x50140#20 = .op (.keyin 0x40#8) := by decide
theorem test_decode_start : decode 0b0110_0000000000000000#20 = .op .start := by decide
theorem test_decode_stop : decode 0b0111_0000000000000000#20 = .op .stop := by decide
theorem test_decode_setspd :
    decode 0b1000_0000000000010100#20 = .op (.setspd 20#16) ∧ decode 0x8FFFF#20 = .op (.setspd 65535#16) := by decide
theorem test_decode_setdir :
    decode 0b1001_0000000000000001#20 = .op (.setdir true) ∧ decode 0x9FFFE#20 = .op (.setdir false) := by decide
theorem test_decode_reserved :
    decode 0xA0000#20 = .reserved 0xA#4 ∧ decode 0xB1234#20 = .reserved 0xB#4 ∧ decode 0xC0000#20 = .reserved 0xC#4 ∧
      decode 0xD0000#20 = .reserved 0xD#4 ∧ decode 0xE0000#20 = .reserved 0xE#4 ∧ decode 0xFFFFF#20 = .reserved 0xF#4 := by
  decide
theorem test_decodeTableWord :
    decodeTableWord 24 0x80014 = some (.setspd 20#16) ∧ decodeTableWord 24 0xA0000 = none ∧
      decodeTableWord 24 0x100000 = none := by decide
/-- The words in the line tables of 95_test_vectors.md section 3, and a PASS with a command (R82). -/
theorem test_assemble :
    assemble "SETSPD 20 ; menu".toList = some [0x80014#20] ∧ assemble "KEYIN 0xFF".toList = some [0x500FF#20] ∧
      assemble "TICKS 2".toList = some [0x10000#20, 0x10000#20] ∧
      assemble "PASS 1, 0x40, SETDIR 1".toList =
        some [0x40001#20, 0x50040#20, 0x90001#20, 0x20000#20, 0x30000#20] := by decide
theorem test_assemble_refuses :
    assemble "KEYIN 256".toList = none ∧ assemble "PASS 0, 0, OUT".toList = none ∧ assemble "tick".toList = none := by
  decide

/-! ## One operation -/

/-- T2 and T3. -/
theorem test_tick_expires :
    (after (exec .tick { engine .rotating 2000#16 0#16 0#16 with
      direction := .right, duration := 5#16, phase := 5#3, phaseCnt := 1#16 })).map (fun t => (t.phase, t.phaseCnt))
      = some (0#3, 5#16) ∧
    (after (exec .tick { engine .rotating 1#16 0#16 0#16 with duration := 10000#16 })).map
      (fun t => (t.phase, t.phaseCnt)) = some (5#3, 10000#16) := by decide
/-- T6 and T15. -/
theorem test_tick_counts :
    (after (exec .tick { small with direction := .right, duration := 5#16, phase := 2#3, phaseCnt := 1#16 })).map
      (fun t => (t.phase, t.phaseCnt)) = some (2#3, 0#16) ∧
    (after (exec .tick { engine .rotating 7#16 0#16 0#16 with
      phaseCnt := 65535#16, debounceCnt := 65535#16 })).map (fun t => (t.phaseCnt, t.debounceCnt))
      = some (65534#16, 65534#16) := by decide
/-- OU1 and OU2. -/
theorem test_out :
    (after (exec .out { engine .rotating 2000#16 0#16 0#16 with phase := 4#3, pins := 0x18#6 })).map (·.pins) = some 0x12#6 ∧
    (after (exec .out { engine .ready 0#16 0#16 0#16 with phase := 4#3, pins := 0x12#6 })).map (·.pins) = some 0#6 := by
  decide
/-- O6 and O7. -/
theorem test_output_edges :
    output CommTable.default 5#3 65535#16 = 0x18#6 ∧ output CommTable.default 6#3 1#16 = 0#6 := by decide
/-- The table of 95_test_vectors.md 2.4. -/
theorem test_period :
    period 7#16 = some 1428#16 ∧ period 3333#16 = some 3#16 ∧ period 3334#16 = some 2#16 ∧
      period 10000#16 = some 1#16 ∧ period 10001#16 = some 0#16 ∧ period 65535#16 = some 0#16 := by decide
/-- S3 and S4. -/
theorem test_step_init :
    (after (exec .step { engine .init 5#16 50#16 7#16 with started := true, revLatch := true, duration := 99#16 })).map
      (fun t => (t.state, t.savedRequestedRotation, t.duration)) = some (.ready, 0#16, 0#16) ∧
    (after (exec .step { engine .unused7 5#16 50#16 0#16 with direction := .right, phase := 3#3 })).map
      (fun t => (t.state, t.direction, t.phase)) = some (.ready, .left, 0#3) := by decide
/-- S7 and S8. -/
theorem test_step_ready :
    (after (exec .step { engine .ready 4#16 10#16 0#16 with requestedDirection := .right, started := true })).map
      (fun t => (t.state, t.savedRequestedRotation, t.revLatch)) = some (.reversing, 10#16, true) ∧
    (after (exec .step { engine .ready 0#16 50#16 0#16 with started := true })).map
      (fun t => (t.state, t.rotation, t.duration)) = some (.ready, 1#16, 10000#16) := by decide
/-- S20 and S23. -/
theorem test_step_rotating :
    (after (exec .step { engine .rotating 3#16 10#16 0#16 with started := true, duration := 3333#16 })).map
      (fun t => (t.state, t.rotation, t.duration)) = some (.ready, 4#16, 2500#16) ∧
    (after (exec .step { engine .rotating 1#16 0#16 10#16 with
      requestedDirection := .right, started := true, revLatch := true, duration := 10000#16 })).map
      (fun t => (t.state, t.rotation, t.duration)) = some (.ready, 0#16, 10000#16) := by decide
/-- S27. -/
theorem test_step_stopped :
    (after (exec .step { engine .stopped 2000#16 2000#16 0#16 with started := true, fault := true })).map
      (fun t => (t.state, t.rotation, t.started, t.fault)) = some (.ready, 0#16, false, true) := by decide
/-- S30 and S31. -/
theorem test_step_reversing :
    (after (exec .step { engine .reversing 10#16 10#16 10#16 with requestedDirection := .right, revLatch := true })).map
      (fun t => (t.state, t.rotation, t.requestedRotation)) = some (.rotating, 10#16, 0#16) ∧
    (after (exec .step { engine .reversing 0#16 0#16 10#16 with
      requestedDirection := .right, revLatch := true, phase := 3#3 })).map
      (fun t => (t.direction, t.requestedRotation, t.phase)) = some (.right, 10#16, 0#3) := by decide
/-- K1, K2 and K11. -/
theorem test_keyin :
    (after (exec (.keyin 0x40#8) small)).map (fun t => (t.resp, t.debounceCnt)) = some (.event 0x40#8, 5#16) ∧
    (after (exec (.keyin 0x40#8) { small with debounceCnt := 5#16 })).map (fun t => (t.resp, t.debounceCnt))
      = some (.none, 5#16) ∧
    (after (exec (.keyin 0x41#8) small)).map (fun t => (t.resp, t.debounceCnt)) = some (.none, 0#16) := by decide
/-- F2, F3 and F6. -/
theorem test_fsample :
    (after (exec (.fsample true) (engine .rotating 7#16 7#16 0#16))).map
      (fun t => (t.state, t.fault, t.debounceCnt, t.rotation)) = some (.stopped, true, 5#16, 7#16) ∧
    (after (exec (.fsample true) { engine .rotating 7#16 7#16 0#16 with debounceCnt := 2#16 })).map
      (fun t => (t.state, t.fault, t.debounceCnt)) = some (.rotating, false, 2#16) ∧
    (after (exec (.fsample false) { small with fault := true })).map (·.fault) = some true := by decide
/-- H1. -/
theorem test_nop : (after (exec .nop { small with started := true })).map (·.started) = some true := by decide
/-- H4. -/
theorem test_start :
    (after (exec .start { small with fault := true })).map (fun t => (t.started, t.fault)) = some (true, true) := by decide
/-- H5. -/
theorem test_stop :
    (after (exec .stop { small with started := true, fault := true })).map (fun t => (t.started, t.fault))
      = some (false, false) := by decide
/-- H9, H14 and H8. -/
theorem test_setspd :
    (after (exec (.setspd 1#16) State.reset)).map (·.requestedRotation) = some 10#16 ∧
    (after (exec (.setspd 3001#16) State.reset)).map (·.requestedRotation) = some 3000#16 ∧
    (after (exec (.setspd 0#16) State.reset)).map (·.requestedRotation) = some 0#16 := by decide
/-- H19. -/
theorem test_setdir :
    (after (exec (.setdir true) small)).map (fun t => (t.requestedDirection, t.direction)) = some (.right, .left) := by
  decide
/-- The responses as bits, 95_test_vectors.md 2.1. -/
theorem test_response_bits :
    Response.none.bits = 0x000#9 ∧ (Response.event 0x80#8).bits = 0x180#9 ∧ Response.accepted.bits = 0x101#9 := by decide

/-! ## The step -/

/-- A presented word runs as the first operation after reset. -/
theorem test_step_runs_first_word :
    (after (step (State.reset.withFetchWord 24 0x80014))).map (·.requestedRotation) = some 20#16 ∧
    (after (step (State.reset.withFetchWord 24 0x20000))).map (·.state) = some .ready ∧
    (after (step (State.reset.withFetchWord 24 0x40001))).map (·.resp) = some .accepted := by decide
/-- H22: a reserved word. -/
theorem test_step_reserved :
    (after (step ({ small with resp := .accepted }.withFetchWord 24 0xA0000))).map (fun t => (t.resp, t.inputs))
      = some (.none, []) := by decide
/-- R60: a TICK presented with a word goes first. -/
theorem test_step_with_tick :
    (after (step { small with debounceCnt := 2#16, inputs := [.withTick 0x60000#20] })).map
      (fun t => (t.debounceCnt, t.started, t.inputs)) = some (1#16, false, [.op 0x60000#20]) := by decide
theorem test_step_idle : (after (step small)).map (·.state) = some .init := by decide
theorem test_step_reset_input :
    (after (step { engine .rotating 5#16 5#16 0#16 with inputs := [.reset] })).map (fun t => (t.state, t.rotation))
      = some (.init, 0#16) := by decide
theorem test_step_illegal_config :
    refusal (step { small with cfg := { Config.cfgSmall with debounceMs := 0#16 } }) = some .illegalConfig := by decide

/-! ## Witnesses: the hypotheses of the obligations can be met, clause by clause -/

theorem witness_EveryWordDecodesByItsOpcode : 10 ≤ (0xA#4).toNat ∧ 10 ≤ (0xF#4).toNat := by decide
theorem witness_TableRowsSelectTheirWords :
    (opcodeTable.map (·.mnemonic)).length = 10 ∧ (∀ r ∈ opcodeTable, 0xA0000#20 &&& r.wordMask ≠ r.wordMatch) ∧
      ∃ r ∈ opcodeTable, 0x9FFFE#20 &&& r.wordMask = r.wordMatch := by decide
theorem witness_DecodeOfEncodeIgnoresUnusedBits :
    Instr.nop.wellFormed ∧ (Instr.keyin 0xFF#8).wellFormed ∧ (Instr.setspd 0xFFFF#16).wellFormed ∧
      (Instr.setdir true).wellFormed := by decide
theorem witness_EncodeOfDecodeClearsUnusedBits : decode 0x5FF40#20 = .op (.keyin 0x40#8) := by decide
theorem witness_ScriptLinesHaveTheirWords :
    (1 : Nat) ≤ 1 ∧ (255 : Nat) ≤ 255 ∧ (65535 : Nat) ≤ 65535 ∧ (1 : Nat) < 2 ∧ (255 : Nat) < 256 ∧ (65535 : Nat) < 65536 ∧
      scriptWords (.op (.setspd 65535)) = some [0x8FFFF#20] ∧ scriptWords (.op .start) = some [0x60000#20] ∧
      scriptWords (.op .stop) = some [0x70000#20] ∧ scriptWords (.op (.setdir 1)) = some [0x90001#20] := by decide
theorem witness_StepRunsThePresentedOperation :
    small.cfg.legal ∧ ({ small with inputs := [.op 0x2FFFF#20] } : State).inputs = .op 0x2FFFF#20 :: [] ∧
      decode 0x2FFFF#20 = .op .step := by decide
theorem witness_TickGoesFirst :
    small.cfg.legal ∧ ({ small with inputs := [.withTick 0x60000#20] } : State).inputs = .withTick 0x60000#20 :: [] ∧
      decode 0x60000#20 = .op .start := by decide
theorem witness_ReservedWordIsANoOperation :
    small.cfg.legal ∧ ({ small with inputs := [.op 0xA0000#20] } : State).inputs = .op 0xA0000#20 :: [] ∧
      0xA#4 ≤ (0xA0000#20).extractLsb' 16 4 ∧ 0xA#4 ≤ (0xFFFFF#20).extractLsb' 16 4 := by decide
theorem witness_ResetInputLeavesTheResetState :
    small.cfg.legal ∧ ({ small with inputs := [.reset, .reset] } : State).inputs = .reset :: [.reset] := by decide
theorem witness_NoOperationHaltsTheBlock : (engine .rotating 5#16 5#16 0#16).cfg.legal := by decide
/-- One configuration for each constraint. -/
theorem witness_IllegalConfigurationIsRefused :
    ({ Config.cfgSmall with speedMin := 0#16 } : Config).speedMin = 0#16 ∧
    ({ Config.cfgSmall with speedMin := 101#16 } : Config).speedMax < 101#16 ∧
    10000#16 < ({ Config.cfgSmall with speedMax := 10001#16 } : Config).speedMax ∧
    ({ Config.cfgSmall with debounceMs := 0#16 } : Config).debounceMs = 0#16 ∧
    (∃ p ∈ ({ CommTable.default with entry0 := 0x01#6 } : CommTable).entries, activeLines p ≠ 2) ∧
    ¬ ({ KeyCodes.default with up := 0x20#8 } : KeyCodes).codes.Nodup ∧
    0x00#8 ∈ ({ KeyCodes.default with up := 0x00#8 } : KeyCodes).codes ∧
    0xFF#8 ∈ ({ KeyCodes.default with up := 0xFF#8 } : KeyCodes).codes := by decide
/-- No expiry at count 2, none at count 1 while idle, and an expiry at counts 1 and 0 in either direction. -/
theorem witness_TickCountsAndAdvances :
    ¬ ((2#16).toNat ≤ 1 ∧ 0 < (engine .rotating 5#16 5#16 0#16).rotation.toNat) ∧
    ¬ ((1#16).toNat ≤ 1 ∧ 0 < small.rotation.toNat) ∧
    ((1#16).toNat ≤ 1 ∧ 0 < (engine .rotating 5#16 5#16 0#16).rotation.toNat) ∧
    small.phaseCnt.toNat ≤ 1 ∧ small.direction = .left ∧ ({ small with direction := .right } : State).direction = .right := by
  decide
theorem witness_CountdownsDrainTickByTick : ({ small with phaseCnt := 3#16 } : State).rotation = 0#16 := by decide
/-- The state of the sequence vector of 95_test_vectors.md 2.2, with either count and either direction. -/
theorem witness_CommutationRunsOncePerDuration :
    ∃ s : State, s.rotation ≠ 0#16 ∧ s.duration ≠ 0#16 ∧ s.phase.toNat ≤ 5 ∧ s.direction = .right ∧
      4 < max s.phaseCnt.toNat 1 ∧ max s.phaseCnt.toNat 1 ≤ 5 :=
  ⟨{ engine .rotating 2000#16 2000#16 0#16 with direction := .right, duration := 5#16, phaseCnt := 5#16 }, by decide⟩
theorem witness_CommutationRunsOncePerDuration_left :
    ∃ s : State, s.rotation ≠ 0#16 ∧ s.duration ≠ 0#16 ∧ s.phase.toNat ≤ 5 ∧ s.direction = .left ∧
      0 < max s.phaseCnt.toNat 1 ∧ max s.phaseCnt.toNat 1 ≤ 1 :=
  ⟨{ engine .rotating 1#16 10#16 0#16 with duration := 10000#16, phase := 5#3 }, by decide⟩
/-- The second half: the start of vector I3. -/
theorem witness_TickCommutesWithCommandsAndCommit :
    isMenuCommand .nop = true ∧ isMenuCommand .start = true ∧ isMenuCommand .stop = true ∧
      isMenuCommand (.setspd 7#16) = true ∧ isMenuCommand (.setdir true) = true ∧
      (engine .reversing 0#16 0#16 3#16).state = .reversing ∧ (engine .reversing 0#16 0#16 3#16).rotation = 0#16 := by
  decide
theorem witness_OutWritesThePattern :
    small.rotation = 0#16 ∧ (engine .rotating 1#16 1#16 0#16).rotation ≠ 0#16 ∧ small.phase = 0#3 ∧
      (∀ p ∈ [1#3, 2#3, 3#3, 4#3, 5#3], ({ small with phase := p } : State).phase = p) ∧
      5 < ({ small with phase := 6#3 } : State).phase.toNat := by decide
theorem witness_OutActivatesNoneOrTwoLines : small.cfg.commTable.legal ∧ (5#3).toNat ≤ 5 := by decide
theorem witness_PeriodIsTheTruncatedQuotient : 1#16 ≠ 0#16 ∧ 10000#16 ≠ 0#16 ∧ 10001#16 ≠ 0#16 := by decide
theorem witness_StepInInitResetsTheEngine :
    small.state = .init ∧ (engine .unused5 1#16 1#16 1#16).state = .unused5 ∧
      (engine .unused6 1#16 1#16 1#16).state = .unused6 ∧ (engine .unused7 1#16 1#16 1#16).state = .unused7 ∧
      ∃ t, exec .nop small = .next t ∧ t.state = .init := ⟨rfl, rfl, rfl, rfl, _, rfl, rfl⟩
/-- The five branches: S5, S6, S8, S9, and S11, S12, S13 for the idle branch. -/
theorem witness_StepInReady :
    (∃ s : State, s.state = .ready ∧ s.requestedDirection ≠ s.direction ∧ s.revLatch = false) ∧
    (∃ s : State, s.state = .ready ∧ s.requestedDirection ≠ s.direction ∧ s.revLatch = true) ∧
    (∃ s : State, s.state = .ready ∧ s.requestedDirection = s.direction ∧ 0 < s.requestedRotation.toNat ∧
      s.started = true ∧ s.fault = false ∧ s.rotation = 0#16) ∧
    (∃ s : State, s.state = .ready ∧ s.requestedDirection = s.direction ∧ 0 < s.requestedRotation.toNat ∧
      s.started = true ∧ s.fault = false ∧ 0 < s.rotation.toNat) ∧
    (∃ s : State, s.state = .ready ∧ s.requestedDirection = s.direction ∧ s.started = false) ∧
    (∃ s : State, s.state = .ready ∧ s.requestedDirection = s.direction ∧ s.fault = true) ∧
    (∃ s : State, s.state = .ready ∧ s.requestedDirection = s.direction ∧ s.requestedRotation = 0#16) :=
  ⟨⟨{ engine .ready 0#16 50#16 0#16 with requestedDirection := .right }, by decide⟩,
   ⟨{ engine .ready 4#16 0#16 50#16 with requestedDirection := .right, revLatch := true }, by decide⟩,
   ⟨{ engine .ready 0#16 1#16 0#16 with started := true }, by decide⟩,
   ⟨{ engine .ready 1#16 10#16 0#16 with started := true }, by decide⟩,
   ⟨engine .ready 7#16 10#16 0#16, by decide⟩,
   ⟨{ engine .ready 7#16 10#16 0#16 with fault := true }, by decide⟩,
   ⟨engine .ready 2#16 0#16 0#16, by decide⟩⟩
/-- The stop branch at speeds 0, 1 and 2, by either reason. -/
theorem witness_StepInRotating_stop :
    (∃ s : State, s.state = .rotating ∧ s.started = false ∧ s.rotation = 0#16) ∧
    (∃ s : State, s.state = .rotating ∧ s.fault = true ∧ s.rotation = 1#16) ∧
    (∃ s : State, s.state = .rotating ∧ s.started = false ∧ 1 < s.rotation.toNat) :=
  ⟨⟨engine .rotating 0#16 3#16 0#16, by decide⟩,
   ⟨{ engine .rotating 1#16 3#16 0#16 with fault := true }, by decide⟩, ⟨engine .rotating 2#16 3#16 0#16, by decide⟩⟩
/-- A new reversal; up; down to 0; down to 1; at the target; and the ramp with the reversal latch set. -/
theorem witness_StepInRotating_run :
    (∃ s : State, s.state = .rotating ∧ s.started = true ∧ s.fault = false ∧ s.requestedDirection ≠ s.direction ∧
      s.revLatch = false) ∧
    (∃ s : State, s.state = .rotating ∧ s.started = true ∧ s.fault = false ∧ s.requestedDirection = s.direction ∧
      s.rotation < s.requestedRotation) ∧
    (∃ s : State, s.state = .rotating ∧ s.started = true ∧ s.fault = false ∧ s.revLatch = true ∧
      s.requestedRotation < s.rotation ∧ s.rotation = 1#16) ∧
    (∃ s : State, s.state = .rotating ∧ s.started = true ∧ s.fault = false ∧ s.revLatch = true ∧
      s.requestedRotation < s.rotation ∧ s.rotation ≠ 1#16) ∧
    (∃ s : State, s.state = .rotating ∧ s.started = true ∧ s.fault = false ∧ s.requestedDirection = s.direction ∧
      s.rotation = s.requestedRotation) :=
  ⟨⟨{ engine .rotating 5#16 10#16 0#16 with started := true, requestedDirection := .right }, by decide⟩,
   ⟨{ engine .rotating 0#16 10#16 0#16 with started := true }, by decide⟩,
   ⟨{ engine .rotating 1#16 0#16 10#16 with started := true, revLatch := true }, by decide⟩,
   ⟨{ engine .rotating 2#16 0#16 10#16 with started := true, revLatch := true }, by decide⟩,
   ⟨{ engine .rotating 0#16 0#16 0#16 with started := true }, by decide⟩⟩
theorem witness_StepInStoppedCutsTheDrive : (engine .stopped 2000#16 2000#16 0#16).state = .stopped := by decide
theorem witness_StepInReversing :
    (engine .reversing 1#16 10#16 10#16).state = .reversing ∧ (engine .reversing 1#16 10#16 10#16).rotation ≠ 0#16 ∧
      (engine .reversing 0#16 0#16 10#16).rotation = 0#16 := by decide
theorem witness_StateChangesOnlyByTheDiagram : ∃ t, exec .step small = .next t ∧ t.state ≠ small.state :=
  ⟨_, rfl, by decide⟩

/-- A reversal at standstill, about to be committed; a reachable state (program P7). -/
def committing : State :=
  { engine .reversing 0#16 2#16 2#16 with requestedDirection := .right, revLatch := true }

theorem witness_DirectionChangesOnlyAtTheCommit :
    Inv committing ∧ ∃ t, exec .step committing = .next t ∧ t.direction ≠ committing.direction :=
  ⟨by decide, _, rfl, by decide⟩
theorem witness_SpinUpTakesTwoStepsPerUnit :
    ∃ s : State, s.state = .ready ∧ s.rotation = 0#16 ∧ s.requestedDirection = s.direction ∧
      s.requestedRotation ≠ 0#16 ∧ s.started = true ∧ s.fault = false :=
  ⟨{ engine .ready 0#16 10#16 0#16 with started := true }, by decide⟩
theorem witness_StopRampsDownAndForgetsTheSpeed :
    (∃ s : State, s.state = .rotating ∧ s.started = false) ∧ ∃ s : State, s.state = .rotating ∧ s.fault = true :=
  ⟨⟨engine .rotating 3#16 3#16 0#16, by decide⟩, ⟨{ engine .rotating 3#16 3#16 0#16 with fault := true }, by decide⟩⟩
theorem witness_ReversalTakesFiveStepsPerUnitAndTwo :
    ∃ s : State, s.state = .rotating ∧ s.rotation = s.requestedRotation ∧ s.rotation ≠ 0#16 ∧ s.started = true ∧
      s.fault = false ∧ s.revLatch = false ∧ s.requestedDirection = s.direction ∧ Direction.ofBit true ≠ s.direction :=
  ⟨{ engine .rotating 10#16 10#16 0#16 with started := true }, by decide⟩
theorem witness_StopDuringAReversalDoesNotHold :
    ∃ s : State, s.state = .rotating ∧ s.revLatch = true ∧ s.requestedDirection ≠ s.direction :=
  ⟨{ engine .rotating 3#16 0#16 3#16 with requestedDirection := .right, revLatch := true }, by decide⟩
theorem witness_DirectionRequestAtStandstillStarts :
    ∃ s : State, s.state = .ready ∧ s.rotation = 0#16 ∧ s.revLatch = false ∧ Direction.ofBit true ≠ s.direction :=
  ⟨engine .ready 0#16 2#16 0#16, by decide⟩
/-- An open window, a closed one, and a byte that is no key. -/
theorem witness_KeyinPassesTheGate :
    0x80#8 = small.cfg.keys.stop ∧ 0x04#8 = small.cfg.keys.esc ∧ small.debounceCnt = 0#16 ∧
      ({ small with debounceCnt := 1#16 } : State).debounceCnt ≠ 0#16 ∧ 0x41#8 ∉ small.cfg.keys.codes := by decide
theorem witness_FsampleTakesTheFaultTrap :
    small.debounceCnt = 0#16 ∧ ({ small with debounceCnt := 1#16 } : State).debounceCnt ≠ 0#16 := by decide
/-- Vectors I4a and I4b: four TICKs are too few, five are enough. -/
theorem witness_DebounceWindowHoldsForAnyInterleaving :
    small.debounceCnt = 0#16 ∧ carriesEvent small.cfg (.keyin 0x40#8) = true ∧
      carriesEvent small.cfg (.fsample true) = true ∧
      (∀ i ∈ [Instr.tick, .tick, .step, .keyin 0x41#8, .tick, .tick], carriesEvent small.cfg i = false) ∧
      [Instr.tick, .tick, .step, .keyin 0x41#8, .tick, .tick].count .tick < small.cfg.debounceMs.toNat ∧
      small.cfg.debounceMs.toNat ≤ [Instr.tick, .tick, .step, .tick, .out, .tick, .tick].count .tick := by decide
theorem witness_AcceptedFaultCutsTheDriveInItsPass : (engine .rotating 50#16 50#16 0#16).debounceCnt = 0#16 := by decide
theorem witness_FaultIsSetByTheTrapAndClearedByStop :
    Inv small ∧ (∃ t, exec (.fsample true) small = .next t ∧ small.fault = false ∧ t.fault = true) ∧
      Inv { engine .ready 0#16 0#16 0#16 with fault := true } ∧
      ∃ t, exec .stop { engine .ready 0#16 0#16 0#16 with fault := true } = .next t ∧ t.fault = false :=
  ⟨by decide, ⟨_, rfl, rfl, rfl⟩, by decide, _, rfl, rfl⟩
theorem witness_SetspdClampsTheRequestedSpeed : 0#16 = 0#16 ∧ 1#16 ≠ 0#16 ∧ 65535#16 ≠ 0#16 := by decide
theorem witness_CommandsAndOutAreIdempotent : isMenuCommand (.setdir false) = true ∧ Instr.out = .out := by decide
theorem witness_FirstStepDiscardsEarlyCommands :
    ∀ i ∈ [Instr.setspd 50#16, .start, .setdir true, .nop, .stop], isMenuCommand i = true := by decide
theorem witness_ResponsesAreThoseOfTheTwoReaders :
    (∃ t, exec (.keyin 0x40#8) small = .next t ∧ t.resp = .event 0x40#8) ∧
      ∃ t, exec (.fsample true) small = .next t ∧ t.resp = .accepted := ⟨⟨_, rfl, rfl⟩, _, rfl, rfl⟩
theorem witness_StatusWiresShowTheEncodings :
    small.state = .init ∧ (engine .ready 0#16 0#16 0#16).state = .ready ∧
      (engine .rotating 0#16 0#16 0#16).state = .rotating ∧ (engine .stopped 0#16 0#16 0#16).state = .stopped ∧
      committing.state = .reversing ∧ small.direction = .left ∧ ({ small with direction := .right } : State).direction = .right ∧
      small.requestedDirection = .left ∧ committing.requestedDirection = .right := by decide
/-- A change of each register by an operation that writes it. -/
theorem witness_RegistersAreWrittenByTheirOperations :
    (∃ t, exec .step committing = .next t ∧ t.state ≠ committing.state ∧ t.direction ≠ committing.direction ∧
      t.started ≠ committing.started ∧ t.revLatch ≠ committing.revLatch) ∧
    (∃ t, exec (.setspd 9#16) small = .next t ∧ t.requestedRotation ≠ small.requestedRotation) ∧
    (∃ t, exec (.setdir true) small = .next t ∧ t.requestedDirection ≠ small.requestedDirection) ∧
    (∃ t, exec (.keyin 0x40#8) small = .next t ∧ t.debounceCnt ≠ small.debounceCnt) ∧
    ∃ t, exec (.fsample true) small = .next t ∧ t.fault ≠ small.fault :=
  ⟨⟨_, rfl, by decide⟩, ⟨_, rfl, by decide⟩, ⟨_, rfl, by decide⟩, ⟨_, rfl, by decide⟩, _, rfl, by decide⟩
/-- The same for the registers that need a turning motor: the states of T3 and of OU1, and of S19 and S20. -/
theorem witness_RegistersAreWrittenByTheirOperations_turning :
    (∃ s t : State, exec .tick s = .next t ∧ t.phase ≠ s.phase ∧ t.phaseCnt ≠ s.phaseCnt) ∧
    (∃ s t : State, exec .out s = .next t ∧ t.pins ≠ s.pins) ∧
    (∃ s t : State, exec .step s = .next t ∧ t.savedRequestedRotation ≠ s.savedRequestedRotation) ∧
    ∃ s t : State, exec .step s = .next t ∧ t.rotation ≠ s.rotation ∧ t.duration ≠ s.duration :=
  ⟨⟨{ engine .rotating 1#16 1#16 0#16 with duration := 10000#16 }, _, rfl, by decide⟩,
   ⟨engine .rotating 1#16 1#16 0#16, _, rfl, by decide⟩,
   ⟨{ engine .rotating 5#16 10#16 0#16 with started := true, requestedDirection := .right }, _, rfl, by decide⟩,
   ⟨{ engine .rotating 3#16 10#16 0#16 with started := true, duration := 3333#16 }, _, rfl, by decide⟩⟩

/-- Steady running at 50 to the left (the start of E9), with a word presented. -/
def running : State :=
  { engine .rotating 50#16 50#16 0#16 with started := true, duration := 200#16, phase := 2#3, inputs := [.op 0x20000#20] }

theorem witness_SavedSpeedIsHiddenWithoutAReversal : Inv running ∧ running.revLatch = false := by decide
theorem witness_StepKeepsInv : Inv running ∧ ∃ t, step running = .next t := ⟨by decide, _, rfl⟩
theorem witness_ResetHasInv : Config.cfgRef.legal ∧ Config.cfgSmall.legal := by decide

end Sys2Proof.Tests
end

section
/-! PROOFS. The scope's constraints on a configuration (00_scope.md R9) and the step's refusal of one that breaks them
(93_implementation_defined.md U9 to U11). -/
namespace Sys2Proof.Machine

/-- The step asks for a legal configuration before it looks at what is presented. -/
theorem step_of_illegal {s : State} (hc : ¬ s.cfg.legal) : step s = .refused .illegalConfig := by
  rw [step, fetch_of_illegal hc]

/-- U9, the speed bounds: the constraints as comparisons of the registers' words. -/
theorem speedBoundsLegal_iff (c : Config) :
    c.speedBoundsLegal ↔ c.speedMin ≠ 0#16 ∧ ¬ c.speedMax < c.speedMin ∧ ¬ 10000#16 < c.speedMax := by
  unfold Config.speedBoundsLegal
  bv_omega

/-- U9, the window: its lower bound as a comparison of words. -/
theorem windowLegal_iff (c : Config) : c.windowLegal ↔ c.debounceMs ≠ 0#16 := by
  unfold Config.windowLegal
  bv_omega

/-- Settles O13: each broken constraint contradicts its own conjunct of `Config.legal`, and an illegal configuration
stops the step. -/
theorem illegalConfigurationIsRefused : Obligations.IllegalConfigurationIsRefused := by
  intro s broken
  refine step_of_illegal fun ⟨hspeed, hwindow, htable, hdistinct, hnot00, hnotFF⟩ => ?_
  obtain ⟨hmin, horder, hmax⟩ := (speedBoundsLegal_iff s.cfg).mp hspeed
  rcases broken with h | h | h | h | ⟨p, hp, hlines⟩ | h | h | h
  · exact hmin h
  · exact horder h
  · exact hmax h
  · exact (windowLegal_iff s.cfg).mp hwindow h
  · exact hlines (htable p hp)
  · exact h hdistinct
  · exact hnot00 h
  · exact hnotFF h

end Sys2Proof.Machine
end

section
/-! PROOFS. Everything an operation can do, said once: the rows of `OpRow` with the whole next state of each, for the
ten operations together, as `EngineRow` says it for STEP. -/
namespace Sys2Proof.Machine

/-- `OpRow s i t` says that the operation `i` takes `s` to `t`, by one row per effect an operation can have. -/
inductive OpRow (s : State) : Instr → State → Prop
  | nop : OpRow s .nop { s with resp := .none }
  | tickExpire (hx : phaseExpired (countDownTimers s)) :
      OpRow s .tick
        { s with
          debounceCnt := countDown s.debounceCnt, phaseCnt := s.duration, phase := nextPhase s.direction s.phase,
          resp := .none }
  | tickCount (hx : ¬ phaseExpired (countDownTimers s)) :
      OpRow s .tick
        { s with debounceCnt := countDown s.debounceCnt, phaseCnt := countDown s.phaseCnt, resp := .none }
  | step {t : State} (h : EngineRow s t) : OpRow s .step t
  | out : OpRow s .out { s with pins := output s.cfg.commTable s.phase s.rotation, resp := .none }
  | fsampleTrap (h0 : s.debounceCnt = 0#16) :
      OpRow s (.fsample true)
        { s with debounceCnt := s.cfg.debounceMs, fault := true, state := .stopped, resp := .accepted }
  | fsampleIgnored {b : Bool} (hn : ¬ (b = true ∧ s.debounceCnt = 0#16)) :
      OpRow s (.fsample b) { s with resp := .none }
  | keyinAccept {k : KeyByte} (hk : k ∈ s.cfg.keys.codes ∧ s.debounceCnt = 0#16) :
      OpRow s (.keyin k) { s with debounceCnt := s.cfg.debounceMs, resp := .event k }
  | keyinIgnored {k : KeyByte} (hn : ¬ (k ∈ s.cfg.keys.codes ∧ s.debounceCnt = 0#16)) :
      OpRow s (.keyin k) { s with resp := .none }
  | start : OpRow s .start { s with started := true, resp := .none }
  | stop : OpRow s .stop { s with started := false, fault := false, resp := .none }
  | setspd (v : Word16) : OpRow s (.setspd v) { s with requestedRotation := clampSpeed s.cfg v, resp := .none }
  | setdir (b : Bool) : OpRow s (.setdir b) { s with requestedDirection := Direction.ofBit b, resp := .none }

variable {s t : State} {i : Instr}

theorem execStep_ready (h : s.state = .ready) : execStep s = armReady (respond .none s) := by
  simp only [execStep, runArm, respond_state, h]

theorem execStep_rotating (h : s.state = .rotating) : execStep s = armRotating (respond .none s) := by
  simp only [execStep, runArm, respond_state, h]

theorem execStep_stopped (h : s.state = .stopped) : execStep s = armStopped (respond .none s) := by
  simp only [execStep, runArm, respond_state, h]

theorem execStep_reversing (h : s.state = .reversing) : execStep s = armReversing (respond .none s) := by
  simp only [execStep, runArm, respond_state, h]

theorem execStep_init (h : s.state = .init ∨ s.state = .unused5 ∨ s.state = .unused6 ∨ s.state = .unused7) :
    execStep s = armInit (respond .none s) := by
  rcases h with h | h | h | h <;> simp only [execStep, runArm, respond_state, h]

/-- The STEP takes the row whose conditions hold. -/
theorem EngineRow.exec (h : EngineRow s t) : exec .step s = .next t := by
  change execStep s = _
  cases h with
  | init h => exact execStep_init h
  | readyCapture h hd hl =>
    exact (execStep_ready h).trans ((if_pos hd).trans (congrArg _ (capture_row s _ hl)))
  | readyAgain h hd hl =>
    have hcap : captureReversal (respond .none s) = respond .none s := captureReversal_again _ hl
    exact (execStep_ready h).trans ((if_pos hd).trans (congrArg _ (congrArg (goTo .reversing) hcap)))
  | readySeed h hd hr h0 =>
    exact (execStep_ready h).trans ((if_neg hd).trans ((if_pos hr).trans ((if_pos h0).trans (setRotation_eq _ _))))
  | readyRun h hd hr h0 =>
    exact (execStep_ready h).trans
      ((if_neg hd).trans ((if_pos hr).trans ((if_neg h0).trans (armPeriod_of_ne_zero _ _ h0))))
  | readyIdle h hd hr => exact (execStep_ready h).trans ((if_neg hd).trans (if_neg hr))
  | stopDone h hs h0 => exact (execStep_rotating h).trans ((if_pos hs).trans (if_pos h0))
  | stopRamp h hs h0 =>
    exact (execStep_rotating h).trans ((if_pos hs).trans ((if_neg h0).trans (setRotation_eq _ _)))
  | rotatingCapture h hs hn =>
    exact (execStep_rotating h).trans ((if_neg hs).trans ((if_pos hn).trans (congrArg _ (capture_row s _ hn.2))))
  | rampUp h hs hn hlt =>
    have hne : s.rotation + 1#16 ≠ 0#16 := by bv_omega
    exact (execStep_rotating h).trans
      ((if_neg hs).trans ((if_neg hn).trans ((if_pos hlt).trans (setRotation_of_ne_zero _ _ hne))))
  | rampDown h hs hn hgt =>
    have hlt : ¬ s.rotation < s.requestedRotation := by bv_omega
    exact (execStep_rotating h).trans
      ((if_neg hs).trans ((if_neg hn).trans ((if_neg hlt).trans ((if_pos hgt).trans (setRotation_eq _ _)))))
  | steady h hs hn he =>
    have hlt : ¬ s.rotation < s.requestedRotation := by bv_omega
    have hgt : ¬ s.requestedRotation < s.rotation := by bv_omega
    exact (execStep_rotating h).trans
      ((if_neg hs).trans ((if_neg hn).trans ((if_neg hlt).trans (if_neg hgt))))
  | stopped h => exact execStep_stopped h
  | reversingTarget h h0 => exact (execStep_reversing h).trans (if_neg h0)
  | commit h h0 => exact (execStep_reversing h).trans (if_pos h0)

/-- Every operation has a row in every state. -/
theorem exists_opRow (i : Instr) (s : State) : ∃ t, OpRow s i t := by
  cases i with
  | nop => exact ⟨_, .nop⟩
  | tick =>
    by_cases hx : phaseExpired (countDownTimers s)
    · exact ⟨_, .tickExpire hx⟩
    · exact ⟨_, .tickCount hx⟩
  | step =>
    obtain ⟨t, -, h⟩ := execStep_row s
    exact ⟨t, .step h⟩
  | out => exact ⟨_, .out⟩
  | fsample b =>
    by_cases ha : b = true ∧ s.debounceCnt = 0#16
    · obtain ⟨rfl, h0⟩ := ha
      exact ⟨_, .fsampleTrap h0⟩
    · exact ⟨_, .fsampleIgnored ha⟩
  | keyin k =>
    by_cases ha : k ∈ s.cfg.keys.codes ∧ s.debounceCnt = 0#16
    · exact ⟨_, .keyinAccept ha⟩
    · exact ⟨_, .keyinIgnored ha⟩
  | start => exact ⟨_, .start⟩
  | stop => exact ⟨_, .stop⟩
  | setspd v => exact ⟨_, .setspd v⟩
  | setdir b => exact ⟨_, .setdir b⟩

/-- The operation takes the row whose conditions hold. -/
theorem OpRow.exec (h : OpRow s i t) : exec i s = .next t := by
  cases h with
  | nop => rfl
  | tickExpire hx => exact (execTick_eq s).trans (by rw [if_pos hx])
  | tickCount hx => exact (execTick_eq s).trans (by rw [if_neg hx])
  | step h => exact h.exec
  | out => rfl
  | fsampleTrap h0 => exact (execFsample_eq true s).trans (by rw [if_pos ⟨rfl, h0⟩])
  | fsampleIgnored hn => exact (execFsample_eq _ s).trans (by rw [if_neg hn])
  | keyinAccept hk => exact (execKeyin_eq _ s).trans (by rw [if_pos hk])
  | keyinIgnored hn => exact (execKeyin_eq _ s).trans (by rw [if_neg hn])
  | start => rfl
  | stop => rfl
  | setspd v => rfl
  | setdir b => rfl

/-- Inversion of an operation: whatever it answers, a row took it there. -/
theorem exec_cases (h : exec i s = .next t) : OpRow s i t := by
  obtain ⟨u, hu⟩ := exists_opRow i s
  have he : (Host.Outcome.next t : Host.Outcome State Fault Refusal) = .next u := h.symm.trans hu.exec
  cases he
  exact hu

end Sys2Proof.Machine
end

section
/-! PROOFS. What each register can be after a STEP, read off the rows of the diagram (42_engine.md R118 to R123). -/
namespace Sys2Proof.Machine

/-- The encodings of `state` under which a STEP runs the Init arm (42_engine.md R117): none of the other four states. -/
abbrev RunsInitArm (s : State) : Prop :=
  s.state ≠ .ready ∧ s.state ≠ .rotating ∧ s.state ≠ .stopped ∧ s.state ≠ .reversing

theorem runsInitArm_of_code {s : State}
    (h : s.state = .init ∨ s.state = .unused5 ∨ s.state = .unused6 ∨ s.state = .unused7) : RunsInitArm s := by
  rcases h with h | h | h | h <;> simp [RunsInitArm, h]

/-- Among the named states only Init runs the Init arm (30_encoding.md R76). -/
theorem StateNamed.eq_init {s : State} (hn : StateNamed s) (h : RunsInitArm s) : s.state = .init := by
  obtain ⟨hready, hrotating, hstopped, hreversing⟩ := h
  exact hn.resolve_right (by simp [hready, hrotating, hstopped, hreversing])

namespace EngineRow
variable {s t : State}

/-- A STEP writes neither the counters nor the lines, and keeps the configuration. -/
theorem unwritten (h : EngineRow s t) :
    t.phaseCnt = s.phaseCnt ∧ t.debounceCnt = s.debounceCnt ∧ t.pins = s.pins ∧ t.cfg = s.cfg := by
  cases h <;> exact ⟨rfl, rfl, rfl, rfl⟩

/-- A STEP ends outside Init, in a named state. -/
theorem state_cases (h : EngineRow s t) :
    t.state = .ready ∨ t.state = .rotating ∨ t.state = .stopped ∨ t.state = .reversing := by
  cases h <;> simp [*]

/-- Only the captures lead into Reversing, and the latch is set there. -/
theorem revLatch_of_reversing (h : EngineRow s t) : ReversingLatched t := by
  cases h <;> simp [ReversingLatched, *]

theorem phase_cases (h : EngineRow s t) : t.phase = s.phase ∨ t.phase = 0#3 := by
  cases h <;> simp

theorem requestedDirection_cases (h : EngineRow s t) :
    t.requestedDirection = s.requestedDirection ∨ RunsInitArm s := by
  cases h with
  | init h => exact .inr (runsInitArm_of_code h)
  | _ => exact .inl rfl

theorem fault_cases (h : EngineRow s t) : t.fault = s.fault ∨ RunsInitArm s ∧ t.fault = false := by
  cases h with
  | init h => exact .inr ⟨runsInitArm_of_code h, rfl⟩
  | _ => exact .inl rfl

/-- The requested speed is kept, cleared, or restored from the saved one; the saved one is kept, cleared, or captured
from the requested one. -/
theorem speeds_cases (h : EngineRow s t) :
    (t.requestedRotation = s.requestedRotation ∨ t.requestedRotation = 0#16 ∨
      t.requestedRotation = s.savedRequestedRotation) ∧
    (t.savedRequestedRotation = s.savedRequestedRotation ∨ t.savedRequestedRotation = 0#16 ∨
      t.savedRequestedRotation = s.requestedRotation) := by
  cases h <;> simp

/-- A STEP that leaves the motor turning has kept speed and period, or has written the period of the new speed. -/
theorem duration_cases (h : EngineRow s t) :
    t.rotation = 0#16 ∨ t.duration = periodFormula t.rotation ∨
      (t.rotation = s.rotation ∧ t.duration = s.duration) := by
  cases h with
  | init | readyIdle | stopped => exact .inl rfl
  | readySeed | readyRun | rampUp => exact .inr (.inl rfl)
  | stopRamp | rampDown =>
    by_cases h0 : s.rotation - 1#16 = 0#16
    · exact .inl h0
    · exact .inr (.inl (if_neg h0))
  | _ => exact .inr (.inr ⟨rfl, rfl⟩)

/-- A STEP raises the speed at most to its target. -/
theorem rotation_le (h : EngineRow s t) : t.rotation ≤ s.rotation ∨ t.rotation ≤ s.requestedRotation := by
  cases h with
  | init | readyIdle | stopped => exact .inl (Nat.zero_le _)
  | readySeed h hd hr h0 =>
    obtain ⟨hreq, -, -⟩ := hr
    exact .inr (by change 1#16 ≤ s.requestedRotation; bv_omega)
  | rampUp h hs hn hlt => exact .inr (by change s.rotation + 1#16 ≤ s.requestedRotation; bv_omega)
  | stopRamp h hs h0 => exact .inl (by change s.rotation - 1#16 ≤ s.rotation; bv_omega)
  | rampDown h hs hn hgt => exact .inl (by change s.rotation - 1#16 ≤ s.rotation; bv_omega)
  | _ => exact .inl (BitVec.le_refl _)

/-- The Stopped arm cuts the drive (42_engine.md R121). -/
theorem rotation_of_stopped (h : EngineRow s t) (hs : s.state = .stopped) : t.rotation = 0#16 := by
  cases h
  case stopped => rfl
  -- no other row starts in Stopped
  all_goals simp_all

/-- With the fault latched a STEP does not start a motor that stands still (60_exceptions.md R180). -/
theorem rotation_of_fault (h : EngineRow s t) (hf : s.fault = true) (h0 : s.rotation = 0#16) :
    t.rotation = 0#16 := by
  cases h with
  | init | readyIdle | stopped => rfl
  | readySeed h hd hr =>
    obtain ⟨-, -, hclear⟩ := hr
    exact absurd (hf.symm.trans hclear) (by decide)
  | stopRamp h hs hne => exact absurd h0 hne
  | rampUp h hs | rampDown h hs => exact absurd (.inr hf) hs
  | _ => exact h0

end EngineRow
end Sys2Proof.Machine
end

section
/-! PROOFS. The invariant (10_state.md R38): it holds after reset (O50), every operation keeps it, hence so does every
step (O49). -/
namespace Sys2Proof.Machine
variable {s t : State} {i : Instr}

theorem legalSpeed.le_speedMax {c : Config} {v : Word16} (h : legalSpeed c v) : v ≤ c.speedMax := by
  rcases h with rfl | ⟨-, h⟩
  · exact Nat.zero_le _
  · exact h

theorem EngineRow.keeps_durationIsPeriod (h : EngineRow s t) (hd : DurationIsPeriod s) : DurationIsPeriod t := by
  intro hne
  rcases h.duration_cases with h0 | hp | ⟨hr, hk⟩
  · exact absurd h0 hne
  · rw [hp, period_of_ne_zero _ hne]
  · rw [hr] at hne ⊢
    rw [hk, hd hne]

theorem EngineRow.keeps_speedsLegal (h : EngineRow s t) (hs : SpeedsLegal s) : SpeedsLegal t := by
  obtain ⟨hreq, hsav⟩ := hs
  obtain ⟨-, -, -, hcfg⟩ := h.unwritten
  obtain ⟨hr, hv⟩ := h.speeds_cases
  unfold SpeedsLegal
  rw [hcfg]
  constructor
  · rcases hr with e | e | e <;> rw [e]
    exacts [hreq, .inl rfl, hsav]
  · rcases hv with e | e | e <;> rw [e]
    exacts [hsav, .inl rfl, hreq]

theorem EngineRow.keeps_rotationBounded (h : EngineRow s t) (hs : SpeedsLegal s) (hb : RotationBounded s) :
    RotationBounded t := by
  obtain ⟨-, -, -, hcfg⟩ := h.unwritten
  unfold RotationBounded
  rw [hcfg]
  rcases h.rotation_le with hle | hle
  · exact BitVec.le_trans hle hb
  · exact BitVec.le_trans hle hs.1.le_speedMax

theorem EngineRow.keeps_faultCutsDrive (h : EngineRow s t) (hc : FaultCutsDrive s) : FaultCutsDrive t := by
  intro hf
  rcases h.fault_cases with hk | ⟨-, hclear⟩
  · rw [hk] at hf
    rcases hc hf with hstop | h0
    · exact .inr (h.rotation_of_stopped hstop)
    · exact .inr (h.rotation_of_fault hf h0)
  · rw [hclear] at hf; cases hf

theorem EngineRow.keeps_inv (h : EngineRow s t) (hI : Inv s) : Inv t := by
  obtain ⟨hcfg, -, hphase, hdur, hspeeds, hrot, hpins, -, -, hfault, hwin⟩ := hI
  obtain ⟨-, hdeb, hpin, hc⟩ := h.unwritten
  refine ⟨hc ▸ hcfg, .inr h.state_cases, ?_, h.keeps_durationIsPeriod hdur, h.keeps_speedsLegal hspeeds,
    h.keeps_rotationBounded hspeeds hrot, ?_, ?_, h.revLatch_of_reversing, h.keeps_faultCutsDrive hfault, ?_⟩
  · rcases h.phase_cases with e | e <;> simp only [PhaseInTable, e]
    exacts [hphase, by decide]
  · simpa only [PinsLegal, hpin] using hpins
  · intro hinit
    simpa [hinit] using h.state_cases
  · simpa only [WindowBounded, hdeb, hc] using hwin

theorem OpRow.keeps_inv (h : OpRow s i t) (hI : Inv s) : Inv t := by
  have ⟨hcfg, hnamed, hphase, hdur, hspeeds, hrot, hpins, hinit, hrev, hfault, hwin⟩ := hI
  have hcount : countDown s.debounceCnt ≤ s.cfg.debounceMs := BitVec.le_trans (countDown_le _) hwin
  cases h with
  | nop | fsampleIgnored | keyinIgnored | start | setdir => exact hI
  | tickExpire hx =>
    -- in Init the motor stands still, so the phase does not move there
    exact ⟨hcfg, hnamed, nextPhase_le _ _, hdur, hspeeds, hrot, hpins, fun h => absurd (hinit h).1 hx.2, hrev, hfault,
      hcount⟩
  | tickCount => exact ⟨hcfg, hnamed, hphase, hdur, hspeeds, hrot, hpins, hinit, hrev, hfault, hcount⟩
  | step h => exact h.keeps_inv hI
  | out =>
    have hout := activeLines_output _ s.phase s.rotation hcfg.2.2.1
    exact ⟨hcfg, hnamed, hphase, hdur, hspeeds, hrot, hout, hinit, hrev, hfault, hwin⟩
  | fsampleTrap =>
    exact ⟨hcfg, by simp [StateNamed], hphase, hdur, hspeeds, hrot, hpins, nofun, nofun, fun _ => .inl rfl,
      BitVec.le_refl _⟩
  | keyinAccept => exact ⟨hcfg, hnamed, hphase, hdur, hspeeds, hrot, hpins, hinit, hrev, hfault, BitVec.le_refl _⟩
  | stop =>
    refine ⟨hcfg, hnamed, hphase, hdur, hspeeds, hrot, hpins, fun h => ?_, hrev, nofun, hwin⟩
    obtain ⟨hr, hd, -, hclean⟩ := hinit h
    exact ⟨hr, hd, rfl, hclean⟩
  | setspd v =>
    have hclamp : legalSpeed s.cfg (clampSpeed s.cfg v) := clampSpeed_legal _ v hcfg.1
    exact ⟨hcfg, hnamed, hphase, hdur, ⟨hclamp, hspeeds.2⟩, hrot, hpins, hinit, hrev, hfault, hwin⟩

theorem inv_resetFor {c : Config} (hc : c.legal) : Inv (State.resetFor c) :=
  have hpins : PinsLegal (State.resetFor c) := .inl (by decide : activeLines 0#6 = 0)
  ⟨hc, .inl rfl, Nat.zero_le _, fun h => absurd rfl h, ⟨.inl rfl, .inl rfl⟩, Nat.zero_le _, hpins,
    fun _ => ⟨rfl, rfl, rfl, rfl, rfl, rfl, rfl⟩, nofun, nofun, Nat.zero_le _⟩

/-- Settles O50: every clause of the invariant reads registers that the reset clears. -/
theorem resetHasInv : Obligations.ResetHasInv :=
  ⟨fun _ => inv_resetFor, inv_resetFor (by decide)⟩

/-- Settles O49: a step changes nothing, resets, writes the response alone, or runs one operation; the invariant does
not read the response and the stream. -/
theorem stepKeepsInv : Obligations.StepKeepsInv := by
  intro s t hI hstep
  obtain ⟨hc, rfl | ⟨ins, rfl⟩ | ⟨ins, rfl⟩ | ⟨i, ins, hexec⟩⟩ := step_cases hstep
  · exact hI
  · exact inv_resetFor hc
  · exact hI
  · exact (exec_cases hexec).keeps_inv hI

end Sys2Proof.Machine
end

section
/-! PROOFS. The registers (10_state.md R20 to R41): their values after reset (O10), the operations that write them
(O47), the fault latch (O37), and the saved speed outside a reversal (O48). -/
namespace Sys2Proof.Machine
variable {s t : State} {i : Instr}

/-- Settles O10: the reset state is this record. -/
theorem resetStateHoldsTheResetTable : Obligations.ResetStateHoldsTheResetTable :=
  ⟨fun _ => ⟨_, rfl, rfl, rfl, rfl, rfl, rfl, rfl, rfl, rfl, rfl, rfl, rfl, rfl, rfl, rfl, rfl⟩, rfl⟩

/-- What becomes of the fault latch: kept, cleared by the Init arm or by STOP, set by the trap. -/
theorem OpRow.fault_cases (h : OpRow s i t) :
    t.fault = s.fault ∨ (i = .step ∧ RunsInitArm s ∧ t.fault = false) ∨ (i = .stop ∧ t.fault = false) ∨
      (i = .fsample true ∧ s.debounceCnt = 0#16 ∧ t.fault = true ∧ t.state = .stopped) := by
  cases h with
  | step h => exact h.fault_cases.imp_right fun hi => .inl ⟨rfl, hi⟩
  | fsampleTrap h0 => exact .inr (.inr (.inr ⟨rfl, h0, rfl, rfl⟩))
  | stop => exact .inr (.inr (.inl ⟨rfl, rfl⟩))
  | _ => exact .inl rfl

/-- Settles O37: the one other writer of the latch, the Init arm, clears it, and under the invariant finds it clear. -/
theorem faultIsSetByTheTrapAndClearedByStop : Obligations.FaultIsSetByTheTrapAndClearedByStop := by
  intro i s t ⟨_, hnamed, _, _, _, _, _, hinit, _⟩ hexec
  rcases (exec_cases hexec).fault_cases with hk | ⟨-, harm, hclear⟩ | ⟨rfl, hclear⟩ | ⟨rfl, h0, hset, hstop⟩
  · cases hf : s.fault <;> simp [hk, hf]
  · obtain ⟨-, -, hf, -⟩ := hinit (hnamed.eq_init harm)
    simp [hclear, hf]
  · simp [hclear]
  · simp [h0, hset, hstop]

/-- Settles O47: a row other than STEP's names in its record the registers it writes, and of those that the table
withholds from STEP the diagram leaves each as it was. -/
theorem registersAreWrittenByTheirOperations : Obligations.RegistersAreWrittenByTheirOperations := by
  intro i s t hexec
  cases exec_cases hexec with
  | step h =>
    obtain ⟨hphaseCnt, hdebounce, hpins, -⟩ := h.unwritten
    have hdir : t.requestedDirection ≠ s.requestedDirection → RunsInitArm s :=
      h.requestedDirection_cases.resolve_left
    have hfault : t.fault ≠ s.fault → RunsInitArm s := fun hne => (h.fault_cases.resolve_left hne).1
    simpa [hphaseCnt, hdebounce, hpins] using And.intro hdir hfault
  | _ => simp

/-- The STEP's row with another saved speed, while no reversal is in progress: the same row, which keeps the saved
speed or overwrites it. -/
theorem EngineRow.replaceSaved (h : EngineRow s t) (hl : s.revLatch = false) (hv : s.state ≠ .reversing)
    (x : Word16) :
    (t.savedRequestedRotation = s.savedRequestedRotation ∧
      EngineRow { s with savedRequestedRotation := x } { t with savedRequestedRotation := x }) ∨
    EngineRow { s with savedRequestedRotation := x } t := by
  cases h with
  | init h => exact .inr (.init h)
  | readyCapture h hd hl => exact .inr (.readyCapture h hd hl)
  | readyAgain h hd hl' => exact absurd (hl.symm.trans hl') (by decide)
  | readySeed h hd hr h0 => exact .inl ⟨rfl, .readySeed h hd hr h0⟩
  | readyRun h hd hr h0 => exact .inl ⟨rfl, .readyRun h hd hr h0⟩
  | readyIdle h hd hr => exact .inl ⟨rfl, .readyIdle h hd hr⟩
  | stopDone h hs h0 => exact .inl ⟨rfl, .stopDone h hs h0⟩
  | stopRamp h hs h0 => exact .inl ⟨rfl, .stopRamp h hs h0⟩
  | rotatingCapture h hs hn => exact .inr (.rotatingCapture h hs hn)
  | rampUp h hs hn hlt => exact .inl ⟨rfl, .rampUp h hs hn hlt⟩
  | rampDown h hs hn hgt => exact .inl ⟨rfl, .rampDown h hs hn hgt⟩
  | steady h hs hn he => exact .inl ⟨rfl, .steady h hs hn he⟩
  | stopped h => exact .inl ⟨rfl, .stopped h⟩
  | reversingTarget h h0 => exact absurd h hv
  | commit h h0 => exact absurd h hv

/-- The operation's row with another saved speed, while no reversal is in progress. -/
theorem OpRow.replaceSaved (h : OpRow s i t) (hl : s.revLatch = false) (hv : s.state ≠ .reversing)
    (x : Word16) :
    (t.savedRequestedRotation = s.savedRequestedRotation ∧
      OpRow { s with savedRequestedRotation := x } i { t with savedRequestedRotation := x }) ∨
    OpRow { s with savedRequestedRotation := x } i t := by
  cases h with
  | nop => exact .inl ⟨rfl, .nop⟩
  | tickExpire hx => exact .inl ⟨rfl, .tickExpire hx⟩
  | tickCount hx => exact .inl ⟨rfl, .tickCount hx⟩
  | step h => exact (h.replaceSaved hl hv x).imp (And.imp_right .step) .step
  | out => exact .inl ⟨rfl, .out⟩
  | fsampleTrap h0 => exact .inl ⟨rfl, .fsampleTrap h0⟩
  | fsampleIgnored hn => exact .inl ⟨rfl, .fsampleIgnored hn⟩
  | keyinAccept hk => exact .inl ⟨rfl, .keyinAccept hk⟩
  | keyinIgnored hn => exact .inl ⟨rfl, .keyinIgnored hn⟩
  | start => exact .inl ⟨rfl, .start⟩
  | stop => exact .inl ⟨rfl, .stop⟩
  | setspd v => exact .inl ⟨rfl, .setspd v⟩
  | setdir b => exact .inl ⟨rfl, .setdir b⟩

/-- Settles O48: only the Reversing commit reads the saved speed, and with the latch clear the invariant excludes
Reversing. -/
theorem savedSpeedIsHiddenWithoutAReversal : Obligations.SavedSpeedIsHiddenWithoutAReversal := by
  intro i s x ⟨_, _, _, _, _, _, _, _, hrev, _⟩ hl
  have hv : s.state ≠ .reversing := fun h => absurd (hl.symm.trans (hrev h)) (by decide)
  obtain ⟨t, ht⟩ := exists_opRow i s
  exact ⟨t, ht.exec, (ht.replaceSaved hl hv x).imp (And.imp_right OpRow.exec) OpRow.exec⟩

end Sys2Proof.Machine
end

section
/-! PROOFS. Operations as atomic changes of the registers (20_memory.md): the step runs what is presented (O7), a TICK
first (O8); TICK commutes with the menu commands and the Reversing commit (O17); repeating a command changes nothing
(O43). -/
namespace Sys2Proof.Machine
variable {s t u : State} {i j : Instr}

/-- The step on a presented word that decodes to an operation (20_memory.md R56). -/
theorem step_of_op {w : OpWord} {rest : List Input} (hc : s.cfg.legal) (hi : s.inputs = .op w :: rest)
    (hd : decode w = .op i) : step s = exec i { s with inputs := rest } := by
  rw [step, fetch_of_op hc hi hd]

/-- The step on a word presented together with a TICK (20_memory.md R60). -/
theorem step_of_withTick {w : OpWord} {rest : List Input} (hc : s.cfg.legal)
    (hi : s.inputs = .withTick w :: rest) : step s = exec .tick { s with inputs := .op w :: rest } := by
  rw [step, fetch_of_withTick hc hi]

theorem EngineRow.inputs_eq (h : EngineRow s t) : t.inputs = s.inputs := by
  cases h <;> rfl

/-- No operation writes the configuration or what is presented. -/
theorem OpRow.keeps_cfg_and_inputs (h : OpRow s i t) : t.cfg = s.cfg ∧ t.inputs = s.inputs := by
  cases h with
  | step h =>
    obtain ⟨-, -, -, hcfg⟩ := h.unwritten
    exact ⟨hcfg, h.inputs_eq⟩
  | _ => exact ⟨rfl, rfl⟩

/-- Settles O7: the fetch takes the word off the stream, and its operation runs. -/
theorem stepRunsThePresentedOperation : Obligations.StepRunsThePresentedOperation :=
  fun _ _ _ _ => step_of_op

/-- Settles O8: TICK keeps the configuration and the stream, so the next step finds the word presented. -/
theorem tickGoesFirst : Obligations.TickGoesFirst := by
  intro s w i rest hc hi hd
  obtain ⟨t, ht⟩ := exists_opRow .tick { s with inputs := .op w :: rest }
  obtain ⟨hcfg, hinputs⟩ := ht.keeps_cfg_and_inputs
  exact ⟨t, ht.exec, (step_of_withTick hc hi).trans ht.exec, step_of_op (hcfg ▸ hc) hinputs hd⟩

theorem execAll_pair (h : OpRow s i t) (h' : OpRow t j u) : execAll [i, j] s = .next u := by
  rw [execAll_cons _ h.exec, execAll_cons _ h'.exec, execAll]

/-- A TICK reads and writes none of the registers that the menu commands write: whatever these hold, it writes the same
count `n` and phase `p` (20_memory.md R62). -/
theorem exists_tickRow_for_all_menu_registers (s : State) :
    ∃ n p, ∀ req dir run flt r,
      OpRow { s with requestedRotation := req, requestedDirection := dir, started := run, fault := flt, resp := r }
        .tick
        { s with
          requestedRotation := req, requestedDirection := dir, started := run, fault := flt,
          debounceCnt := countDown s.debounceCnt, phaseCnt := n, phase := p, resp := .none } := by
  by_cases hx : phaseExpired (countDownTimers s)
  · exact ⟨s.duration, nextPhase s.direction s.phase, fun _ _ _ _ _ => .tickExpire hx⟩
  · exact ⟨countDown s.phaseCnt, s.phase, fun _ _ _ _ _ => .tickCount hx⟩

/-- A menu command reads and writes none of the registers that a TICK writes, so the two end alike in either order. -/
theorem tick_commutes_with_menuCommand (s : State) (hm : isMenuCommand i = true) :
    ∃ t, execAll [.tick, i] s = .next t ∧ execAll [i, .tick] s = .next t := by
  obtain ⟨n, p, htick⟩ := exists_tickRow_for_all_menu_registers s
  cases i with
  | nop => exact ⟨_, execAll_pair (htick _ _ _ _ _) .nop, execAll_pair .nop (htick _ _ _ _ _)⟩
  | start => exact ⟨_, execAll_pair (htick _ _ _ _ _) .start, execAll_pair .start (htick _ _ _ _ _)⟩
  | stop => exact ⟨_, execAll_pair (htick _ _ _ _ _) .stop, execAll_pair .stop (htick _ _ _ _ _)⟩
  | setspd v => exact ⟨_, execAll_pair (htick _ _ _ _ _) (.setspd v), execAll_pair (.setspd v) (htick _ _ _ _ _)⟩
  | setdir b => exact ⟨_, execAll_pair (htick _ _ _ _ _) (.setdir b), execAll_pair (.setdir b) (htick _ _ _ _ _)⟩
  | tick | step | out | fsample | keyin => cases hm

theorem not_phaseExpired_of_standstill (h0 : s.rotation = 0#16) : ¬ phaseExpired s :=
  fun ⟨_, hturns⟩ => hturns h0

/-- At standstill a TICK only counts down, and the commit neither reads nor writes a countdown (42_engine.md R122). -/
theorem tick_commutes_with_commit (h : s.state = .reversing) (h0 : s.rotation = 0#16) :
    ∃ t, execAll [.tick, .step] s = .next t ∧ execAll [.step, .tick] s = .next t ∧
      t.phase = 0#3 ∧ t.direction = s.requestedDirection := by
  have hx : ¬ phaseExpired (countDownTimers s) := not_phaseExpired_of_standstill h0
  exact ⟨_, execAll_pair (.tickCount hx) (.step (.commit h h0)), execAll_pair (.step (.commit h h0)) (.tickCount hx),
    rfl, rfl⟩

/-- Settles O17: TICK and a menu command touch disjoint registers; at standstill so do TICK and the commit. -/
theorem tickCommutesWithCommandsAndCommit : Obligations.TickCommutesWithCommandsAndCommit :=
  ⟨fun s _ => tick_commutes_with_menuCommand s, fun _ => tick_commutes_with_commit⟩

/-- What a menu command or OUT writes does not depend on the registers it writes, so its row repeats in place
(20_memory.md R57). -/
theorem OpRow.repeats (h : OpRow s i t) (hi : isMenuCommand i = true ∨ i = .out) : OpRow t i t := by
  cases h with
  | nop => exact .nop
  | out => exact .out
  | start => exact .start
  | stop => exact .stop
  | setspd v => exact .setspd v
  | setdir b => exact .setdir b
  | _ => simp [isMenuCommand] at hi

/-- Settles O43: the operation's row, taken again from its own result. -/
theorem commandsAndOutAreIdempotent : Obligations.CommandsAndOutAreIdempotent := by
  intro i s hi
  obtain ⟨t, ht⟩ := exists_opRow i s
  exact ⟨t, ht.exec, (ht.repeats hi).exec⟩

end Sys2Proof.Machine
end

section
/-! PROOFS. The two fields of an operation word and the operand bits that a format uses (30_encoding.md R70 to R72). -/
namespace Sys2Proof
variable {w : OpWord}

/-! ## The fields -/

theorem opcodeOf_append_operandV (w : OpWord) : opcodeOf w ++ operandV w = w :=
  BitVec.extractLsb'_append_extractLsb'

theorem opcodeOf_append (op : BitVec 4) (a : BitVec 16) : opcodeOf (op ++ a) = op :=
  BitVec.extractLsb'_append_eq_left

theorem operandV_append (op : BitVec 4) (a : BitVec 16) : operandV (op ++ a) = a :=
  BitVec.extractLsb'_append_eq_right

theorem operandB_eq_getLsbD (w : OpWord) : operandB w = (operandV w).getLsbD 0 := by
  simp [operandB, operandV]

theorem operandK_eq_setWidth (w : OpWord) : operandK w = (operandV w).setWidth 8 := by
  ext j hj
  simp [operandK, operandV, show j < 16 by omega]

/-- A mask over the operand field leaves the opcode. -/
theorem and_operandMask (w : OpWord) (m : BitVec 16) : w &&& (0xF#4 ++ m) = opcodeOf w ++ (operandV w &&& m) := by
  have hones : 0xF#4 = BitVec.allOnes 4 := rfl
  conv_lhs => rw [← opcodeOf_append_operandV w, BitVec.and_append, hones, BitVec.and_allOnes]

/-! ## The bits a format uses, which are the operand -/

theorem usedBits_z (a : BitVec 16) : a &&& ~~~ Format.z.ignoredBits = 0#16 := by
  simp [Format.ignoredBits]

theorem usedBits_b (a : BitVec 16) :
    a &&& ~~~ Format.b.ignoredBits = (BitVec.ofBool (a.getLsbD 0)).setWidth 16 := by
  have hmask : ~~~ Format.b.ignoredBits = BitVec.twoPow 16 0 := rfl
  rw [hmask, BitVec.and_twoPow]
  cases a.getLsbD 0 <;> rfl

theorem usedBits_k (a : BitVec 16) : a &&& ~~~ Format.k.ignoredBits = (a.setWidth 8).setWidth 16 := by
  have hmask : ~~~ Format.k.ignoredBits = (BitVec.allOnes 8).setWidth 16 := rfl
  ext j hj
  rw [hmask, BitVec.getElem_and, BitVec.getElem_setWidth, BitVec.getElem_setWidth, BitVec.getLsbD_allOnes,
    BitVec.getLsbD_setWidth, Bool.and_comm, BitVec.getLsbD_eq_getElem hj]

theorem usedBits_w (a : BitVec 16) : a &&& ~~~ Format.w.ignoredBits = a := BitVec.and_allOnes

theorem operandB_of_usedBits {b : Bool}
    (h : operandV w &&& ~~~ Format.b.ignoredBits = (BitVec.ofBool b).setWidth 16) : operandB w = b := by
  simpa [operandB_eq_getLsbD, Format.ignoredBits] using congrArg (BitVec.getLsbD · 0) h

theorem operandK_of_usedBits {k : KeyByte}
    (h : operandV w &&& ~~~ Format.k.ignoredBits = k.setWidth 16) : operandK w = k := by
  rw [usedBits_k] at h
  simpa [operandK_eq_setWidth] using congrArg (BitVec.setWidth 8) h

theorem operandV_of_usedBits {v : Word16} (h : operandV w &&& ~~~ Format.w.ignoredBits = v) : operandV w = v :=
  (usedBits_w _).symm.trans h

/-- An operand with no bit among the ignored ones `g` is left by a mask that drops whatever stands in those. -/
theorem usedBits_or_ignored {a n g : BitVec 16} (h : a &&& g = 0#16) : (a ||| (n &&& g)) &&& ~~~ g = a := by
  ext j hj
  have hbit : (a[j] && g[j]) = false := by rw [← BitVec.getElem_and, h, BitVec.getElem_zero]
  rw [BitVec.getElem_and, BitVec.getElem_or, BitVec.getElem_and, BitVec.getElem_not]
  revert hbit
  cases a[j] <;> cases g[j] <;> simp

theorem Instr.arg_and_ignoredBits (i : Instr) : i.arg &&& i.format.ignoredBits = 0#16 := by
  have hword : Laws.CanonicalWord.Statement i := by
    cases i with
    | nop => exact Laws.CanonicalWord.nop
    | tick => exact Laws.CanonicalWord.tick
    | step => exact Laws.CanonicalWord.step
    | out => exact Laws.CanonicalWord.out
    | fsample b => exact Laws.CanonicalWord.fsample b
    | keyin k => exact Laws.CanonicalWord.keyin k
    | start => exact Laws.CanonicalWord.start
    | stop => exact Laws.CanonicalWord.stop
    | setspd v => exact Laws.CanonicalWord.setspd v
    | setdir b => exact Laws.CanonicalWord.setdir b
  obtain ⟨-, harg⟩ := hword
  rwa [encode, operandV_append] at harg

theorem Instr.opcode_lt (i : Instr) : i.opcode.toNat < 10 := by
  cases i <;> simp [Instr.opcode]

end Sys2Proof
end

section
/-! PROOFS. The decoder said once by the fields of the word (`DecodeRow`), and from it: every word decodes by its opcode
(O2), and decode and encode undo each other up to the unused bits (O4, O5) (30_encoding.md R70 to R75). -/
namespace Sys2Proof
variable {w : OpWord} {d : Decoded}

/-- `DecodeRow w d` says that the fields of `w` are those of `d`: the opcode of an operation with its operand in the
bits the format uses, or a reserved opcode. -/
inductive DecodeRow (w : OpWord) : Decoded → Prop
  | op (i : Instr) (hop : opcodeOf w = i.opcode) (harg : operandV w &&& ~~~ i.format.ignoredBits = i.arg) :
      DecodeRow w (.op i)
  | reserved (hop : 10 ≤ (opcodeOf w).toNat) : DecodeRow w (.reserved (opcodeOf w))

theorem decodeRow_decode (w : OpWord) : DecodeRow w (decode w) := by
  have hz := usedBits_z (operandV w)
  have hb := usedBits_b (operandV w)
  have hk := usedBits_k (operandV w)
  have hw := usedBits_w (operandV w)
  rw [← operandB_eq_getLsbD] at hb
  rw [← operandK_eq_setWidth] at hk
  unfold decode
  split
  · next h => exact .op .nop (BitVec.eq_of_toNat_eq h) hz
  · next h => exact .op .tick (BitVec.eq_of_toNat_eq h) hz
  · next h => exact .op .step (BitVec.eq_of_toNat_eq h) hz
  · next h => exact .op .out (BitVec.eq_of_toNat_eq h) hz
  · next h => exact .op (.fsample _) (BitVec.eq_of_toNat_eq h) hb
  · next h => exact .op (.keyin _) (BitVec.eq_of_toNat_eq h) hk
  · next h => exact .op .start (BitVec.eq_of_toNat_eq h) hz
  · next h => exact .op .stop (BitVec.eq_of_toNat_eq h) hz
  · next h => exact .op (.setspd _) (BitVec.eq_of_toNat_eq h) hw
  · next h => exact .op (.setdir _) (BitVec.eq_of_toNat_eq h) hb
  · simp only [imp_false] at *
    exact .reserved (by omega)

/-- The fields determine what a word decodes to. -/
theorem DecodeRow.decode_eq (h : DecodeRow w d) : decode w = d := by
  cases h with
  | op i hop harg =>
    cases i with
    | fsample b => rw [decode, hop, operandB_of_usedBits harg]; rfl
    | setdir b => rw [decode, hop, operandB_of_usedBits harg]; rfl
    | keyin k => rw [decode, hop, operandK_of_usedBits harg]; rfl
    | setspd v => rw [decode, hop, operandV_of_usedBits harg]; rfl
    | nop | tick | step | out | start | stop => rw [decode, hop]; rfl
  | reserved hge =>
    have hrow := decodeRow_decode w
    generalize decode w = d at hrow ⊢
    cases hrow with
    | op i hop =>
      have hlt := i.opcode_lt
      rw [← hop] at hlt
      omega
    | reserved => rfl

theorem decode_eq_iff : decode w = d ↔ DecodeRow w d :=
  ⟨fun h => h ▸ decodeRow_decode w, DecodeRow.decode_eq⟩

theorem opcodeOf_of_decode {i : Instr} (h : decode w = .op i) : opcodeOf w = i.opcode := by
  cases decode_eq_iff.mp h with
  | op _ hop => exact hop

theorem decode_append (i : Instr) {a : BitVec 16} (h : a &&& ~~~ i.format.ignoredBits = i.arg) :
    decode (i.opcode ++ a) = .op i :=
  (DecodeRow.op i (opcodeOf_append _ a) (by rwa [operandV_append])).decode_eq

theorem decode_append_reserved {op : BitVec 4} (a : BitVec 16) (h : 10 ≤ op.toNat) :
    decode (op ++ a) = .reserved op := by
  have hrow : DecodeRow (op ++ a) (.reserved (opcodeOf (op ++ a))) := .reserved (by rwa [opcodeOf_append])
  rw [hrow.decode_eq, opcodeOf_append]

/-- Settles O4: the noise falls outside the bits the format uses, and there the canonical word holds the operand. -/
theorem decodeOfEncodeIgnoresUnusedBits : Obligations.DecodeOfEncodeIgnoresUnusedBits := by
  intro i noise _
  rw [encode, BitVec.or_append, BitVec.or_zero]
  exact decode_append i (usedBits_or_ignored i.arg_and_ignoredBits)

/-- Settles O2: for each opcode, the bits its format uses are its operand. -/
theorem everyWordDecodesByItsOpcode : Obligations.EveryWordDecodesByItsOpcode :=
  ⟨fun a =>
    ⟨decode_append .nop (usedBits_z a), decode_append .tick (usedBits_z a), decode_append .step (usedBits_z a),
      decode_append .out (usedBits_z a), decode_append (.fsample _) (usedBits_b a),
      decode_append (.keyin _) (usedBits_k a), decode_append .start (usedBits_z a), decode_append .stop (usedBits_z a),
      decode_append (.setspd a) (usedBits_w a), decode_append (.setdir _) (usedBits_b a)⟩,
    fun _ => decode_append_reserved⟩

/-- Settles O5: the fields of the word are the opcode and, under the mask of the format, the operand field. -/
theorem encodeOfDecodeClearsUnusedBits : Obligations.EncodeOfDecodeClearsUnusedBits := by
  intro w i h
  obtain ⟨_, hop, harg⟩ := decode_eq_iff.mp h
  rw [and_operandMask, hop, harg, encode]

end Sys2Proof
end

section
/-! PROOFS. The rows of the opcode table select by the opcode, as the decoder does (O3) (30_encoding.md R73, R74). -/
namespace Sys2Proof
variable {w : OpWord} {i : Instr} {r : OpcodeRow}

/-- The row of the opcode table for an operation. -/
def Instr.row (i : Instr) : OpcodeRow := ⟨i.mnemonic, i.format, i.opcode ++ 0#16, 0xF0000#20⟩

theorem Instr.row_mem (i : Instr) : i.row ∈ opcodeTable := by
  cases i <;> simp [Instr.row, Instr.mnemonic, Instr.format, Instr.opcode, opcodeTable]

/-- A row matches on the opcode alone, and on none of the reserved ones. -/
theorem opcodeTable_fields : ∀ r ∈ opcodeTable,
    r.wordMask = 0xF#4 ++ 0#16 ∧ r.wordMatch = opcodeOf r.wordMatch ++ 0#16 ∧
      (opcodeOf r.wordMatch).toNat < 10 := by
  decide

/-- No two rows share a mnemonic or an opcode. -/
theorem opcodeTable_row_unique : ∀ r ∈ opcodeTable, ∀ r' ∈ opcodeTable,
    r.mnemonic = r'.mnemonic ∨ opcodeOf r.wordMatch = opcodeOf r'.wordMatch → r = r' := by
  decide

theorem Instr.row_eq (hr : r ∈ opcodeTable) (h : i.mnemonic = r.mnemonic ∨ i.opcode = opcodeOf r.wordMatch) :
    i.row = r :=
  opcodeTable_row_unique _ i.row_mem r hr (h.imp_right (opcodeOf_append _ _).trans)

theorem selects_iff_opcodeOf (hr : r ∈ opcodeTable) :
    w &&& r.wordMask = r.wordMatch ↔ opcodeOf w = opcodeOf r.wordMatch := by
  obtain ⟨hmask, hmatch, -⟩ := opcodeTable_fields r hr
  rw [hmask, and_operandMask, BitVec.and_zero, hmatch, BitVec.append_left_inj, opcodeOf_append]

theorem selects_iff_decode (hr : r ∈ opcodeTable) :
    w &&& r.wordMask = r.wordMatch ↔ ∃ i, decode w = .op i ∧ i.row = r := by
  rw [selects_iff_opcodeOf hr]
  constructor
  · intro hop
    cases hd : decode w with
    | op i => exact ⟨i, rfl, Instr.row_eq hr (.inr ((opcodeOf_of_decode hd).symm.trans hop))⟩
    | reserved op =>
      obtain ⟨-, -, hlt⟩ := opcodeTable_fields r hr
      cases decode_eq_iff.mp hd with
      | reserved hge =>
        rw [hop] at hge
        omega
  · rintro ⟨i, hd, rfl⟩
    exact (opcodeOf_of_decode hd).trans (opcodeOf_append _ _).symm

theorem no_row_selects_iff :
    (∀ r ∈ opcodeTable, w &&& r.wordMask ≠ r.wordMatch) ↔ ∃ op, decode w = .reserved op := by
  constructor
  · intro hnone
    cases hd : decode w with
    | op i => exact absurd ((selects_iff_decode i.row_mem).mpr ⟨i, hd, rfl⟩) (hnone _ i.row_mem)
    | reserved op => exact ⟨op, rfl⟩
  · rintro ⟨op, hd⟩ r hr hsel
    obtain ⟨i, hi, -⟩ := (selects_iff_decode hr).mp hsel
    cases hd.symm.trans hi

/-- Settles O3: the row selected is the decoded operation's, which its mnemonic names. -/
theorem tableRowsSelectTheirWords : Obligations.TableRowsSelectTheirWords := by
  refine ⟨fun w r hr => (selects_iff_decode hr).trans ?_, fun _ => no_row_selects_iff⟩
  refine exists_congr fun i => and_congr_right fun _ => ⟨?_, fun ⟨hm, _⟩ => Instr.row_eq hr (.inl hm)⟩
  rintro rfl
  exact ⟨rfl, rfl⟩

end Sys2Proof
end

section
/-! PROOFS. The words of script lines and the expansion of the pseudo-operations (O6) (30_encoding.md R81, R82). -/
namespace Sys2Proof.Machine
variable {o : ScriptOp} {b k v : Nat} {c : OpWord}

theorem arg_toNat (i : Instr) : i.arg.toNat = i.operand := by
  cases i with
  | fsample b | setdir b => cases b <;> rfl
  | keyin k => exact BitVec.toNat_setWidth_of_le (by decide)
  | nop | tick | step | out | start | stop | setspd => rfl

/-- "The word for a line is `op << 16 | operand`" (30_encoding.md R81). -/
theorem encode_eq_ofNat (i : Instr) : encode i = BitVec.ofNat 20 (i.opcode.toNat <<< 16 ||| i.operand) := by
  rw [← arg_toNat, ← BitVec.toNat_append, BitVec.ofNat_toNat, BitVec.setWidth_eq, encode]

/-! ## One written operation -/

/-- The word of one written operation (`scriptWords_op`). -/
def scriptWord (o : ScriptOp) : Option OpWord := (scriptInstr o).map encode

theorem scriptWord_of_instr {i : Instr} (h : scriptInstr o = some i) :
    scriptWord o = some (BitVec.ofNat 20 (i.opcode.toNat <<< 16 ||| i.operand)) := by
  rw [scriptWord, h, ← encode_eq_ofNat]
  rfl

theorem scriptWord_illFormed (h : ¬ o.wellFormed) : scriptWord o = none := by
  simp [scriptWord, scriptInstr, h]

theorem wellFormed_of_scriptWord (h : scriptWord o = some c) : o.wellFormed := by
  by_contra hn
  cases (scriptWord_illFormed hn).symm.trans h

theorem scriptWord_tick : scriptWord .tick = some 0x10000#20 := rfl
theorem scriptWord_step : scriptWord .step = some 0x20000#20 := rfl
theorem scriptWord_out : scriptWord .out = some 0x30000#20 := rfl

theorem decide_eq_one_toNat (h : b ≤ 1) : (decide (b = 1)).toNat = b := by
  interval_cases b <;> rfl

theorem scriptWord_fsample (h : b ≤ 1) : scriptWord (.fsample b) = some (BitVec.ofNat 20 (4 <<< 16 ||| b)) := by
  have hi : scriptInstr (.fsample b) = some (.fsample (decide (b = 1))) := if_pos (decide_eq_true h)
  rw [scriptWord_of_instr hi, Instr.operand, decide_eq_one_toNat h]
  rfl

theorem scriptWord_setdir (h : b ≤ 1) : scriptWord (.setdir b) = some (BitVec.ofNat 20 (9 <<< 16 ||| b)) := by
  have hi : scriptInstr (.setdir b) = some (.setdir (decide (b = 1))) := if_pos (decide_eq_true h)
  rw [scriptWord_of_instr hi, Instr.operand, decide_eq_one_toNat h]
  rfl

theorem scriptWord_keyin (h : k ≤ 255) : scriptWord (.keyin k) = some (BitVec.ofNat 20 (5 <<< 16 ||| k)) := by
  have hi : scriptInstr (.keyin k) = some (.keyin (BitVec.ofNat 8 k)) := if_pos (decide_eq_true h)
  rw [scriptWord_of_instr hi, Instr.operand, BitVec.toNat_ofNat, Nat.mod_eq_of_lt (by omega)]
  rfl

theorem scriptWord_setspd (h : v ≤ 65535) : scriptWord (.setspd v) = some (BitVec.ofNat 20 (8 <<< 16 ||| v)) := by
  have hi : scriptInstr (.setspd v) = some (.setspd (BitVec.ofNat 16 v)) := if_pos (decide_eq_true h)
  rw [scriptWord_of_instr hi, Instr.operand, BitVec.toNat_ofNat, Nat.mod_eq_of_lt (by omega)]
  rfl

/-! ## A line -/

theorem scriptWords_of_ops {l : ScriptLine} {os : List ScriptOp} (h : scriptOps l = some os) :
    scriptWords l = os.mapM scriptWord := by
  rw [scriptWords, h]
  rfl

theorem scriptWords_op (o : ScriptOp) : scriptWords (.op o) = (scriptWord o).map ([·]) := by
  by_cases h : o.wellFormed
  · have hops : scriptOps (.op o) = some [o] := if_pos h
    rw [scriptWords_of_ops hops]
    cases hc : scriptWord o <;> simp [hc]
  · rw [scriptWord_illFormed h, scriptWords, scriptOps, ScriptLine.wellFormed, if_neg h]
    rfl

theorem scriptWords_op_of_word (h : scriptWord o = some c) : scriptWords (.op o) = some [c] := by
  rw [scriptWords_op, h]
  rfl

theorem scriptWords_op_illFormed (h : ¬ o.wellFormed) : scriptWords (.op o) = none := by
  rw [scriptWords_op, scriptWord_illFormed h]
  rfl

theorem mapM_scriptWord_replicate (h : scriptWord o = some c) (n : Nat) :
    (List.replicate n o).mapM scriptWord = some (List.replicate n c) := by
  induction n with
  | zero => rfl
  | succ n ih => simp [List.replicate_succ, h, ih]

theorem scriptWords_ticks (n : Nat) : scriptWords (.ticks n) = some (List.replicate n 0x10000#20) :=
  (scriptWords_of_ops rfl).trans (mapM_scriptWord_replicate scriptWord_tick n)

theorem scriptWords_steps (n : Nat) : scriptWords (.steps n) = some (List.replicate n 0x20000#20) :=
  (scriptWords_of_ops rfl).trans (mapM_scriptWord_replicate scriptWord_step n)

theorem scriptWords_pass (hb : b ≤ 1) (hk : k ≤ 255) :
    scriptWords (.pass b k none) = some
      [BitVec.ofNat 20 (4 <<< 16 ||| b), BitVec.ofNat 20 (5 <<< 16 ||| k), 0x20000#20, 0x30000#20] := by
  have hops : scriptOps (.pass b k none) = some [.fsample b, .keyin k, .step, .out] :=
    if_pos (by simp [ScriptLine.wellFormed, hb, hk])
  rw [scriptWords_of_ops hops]
  simp [scriptWord_fsample hb, scriptWord_keyin hk, scriptWord_step, scriptWord_out]

theorem scriptWords_pass_command {cmd : ScriptOp} (hb : b ≤ 1) (hk : k ≤ 255) (hhost : cmd.isHostCommand)
    (hc : scriptWord cmd = some c) :
    scriptWords (.pass b k (some cmd)) = some
      [BitVec.ofNat 20 (4 <<< 16 ||| b), BitVec.ofNat 20 (5 <<< 16 ||| k), c, 0x20000#20, 0x30000#20] := by
  have hops : scriptOps (.pass b k (some cmd)) = some [.fsample b, .keyin k, cmd, .step, .out] :=
    if_pos (by simp [ScriptLine.wellFormed, hb, hk, hhost, wellFormed_of_scriptWord hc])
  rw [scriptWords_of_ops hops]
  simp [scriptWord_fsample hb, scriptWord_keyin hk, scriptWord_step, scriptWord_out, hc]

/-- Settles O6: in range the line expands to written operations that have their words; out of range it is ill-formed. -/
theorem scriptLinesHaveTheirWords : Obligations.ScriptLinesHaveTheirWords := by
  refine ⟨rfl, rfl, rfl, rfl, rfl, rfl, fun n => ⟨scriptWords_ticks n, scriptWords_steps n⟩, fun b k v =>
    ⟨fun hb => ⟨scriptWords_op_of_word (scriptWord_fsample hb), scriptWords_op_of_word (scriptWord_setdir hb)⟩,
      fun hk => scriptWords_op_of_word (scriptWord_keyin hk), fun hv => scriptWords_op_of_word (scriptWord_setspd hv),
      scriptWords_pass, fun cmd c hb hk hcmd hc => ?_, fun hb => ⟨?_, ?_⟩, fun hk => ?_, fun hv => ?_⟩⟩
  · have hhost : cmd.isHostCommand := by rcases hcmd with rfl | rfl | rfl | rfl <;> rfl
    exact scriptWords_pass_command hb hk hhost (by simpa [scriptWords_op] using hc)
  all_goals exact scriptWords_op_illFormed (by simp only [ScriptOp.wellFormed, decide_eq_true_eq]; omega)

end Sys2Proof.Machine
end

section
/-! PROOFS. What is seen of the block from outside: the responses and their bits (30_encoding.md R80, O45), and the
status wires (30_encoding.md R76, R77, O46). -/
namespace Sys2Proof.Machine
variable {s t : State} {i : Instr}

theorem EngineRow.resp_eq_none (h : EngineRow s t) : t.resp = .none := by
  cases h <;> rfl

theorem OpRow.resp_cases (h : OpRow s i t) :
    t.resp = .none ∨ (∃ k, i = .keyin k ∧ k ∈ s.cfg.keys.codes ∧ t.resp = .event k) ∨
      (i = .fsample true ∧ t.resp = .accepted) := by
  cases h with
  | step h => exact .inl h.resp_eq_none
  | fsampleTrap _ => exact .inr (.inr ⟨rfl, rfl⟩)
  | keyinAccept hk =>
    obtain ⟨hmem, -⟩ := hk
    exact .inr (.inl ⟨_, rfl, hmem, rfl⟩)
  | _ => exact .inl rfl

theorem event_bits_toNat (k : KeyByte) : (Response.event k).bits.toNat = 0x100 + k.toNat := by
  rw [Response.bits, BitVec.toNat_append, ← Nat.shiftLeft_add_eq_or_of_lt k.isLt]
  rfl

/-- Settles O45: each row of an operation names its response. -/
theorem responsesAreThoseOfTheTwoReaders : Obligations.ResponsesAreThoseOfTheTwoReaders :=
  ⟨fun _ _ _ hexec => (exec_cases hexec).resp_cases, fun _ => rfl, rfl, rfl, event_bits_toNat⟩

theorem readStatus_state_toNat {e : EngineState} (h : s.state = e) : (readStatus .state s).toNat = e.code.toNat :=
  congrArg (·.code.toNat) h

theorem readStatus_direction_toNat {d : Direction} (h : s.direction = d) :
    (readStatus .direction s).toNat = d.bit.toNat :=
  h ▸ BitVec.toNat_ofBool _

theorem readStatus_requestedDirection_toNat {d : Direction} (h : s.requestedDirection = d) :
    (readStatus .requestedDirection s).toNat = d.bit.toNat :=
  h ▸ BitVec.toNat_ofBool _

/-- Settles O46: each wire reads the encoding of its register, and a code and its state determine each other. -/
theorem statusWiresShowTheEncodings : Obligations.StatusWiresShowTheEncodings :=
  ⟨fun _ =>
    ⟨readStatus_state_toNat, readStatus_state_toNat, readStatus_state_toNat, readStatus_state_toNat,
      readStatus_state_toNat, readStatus_direction_toNat, readStatus_direction_toNat,
      readStatus_requestedDirection_toNat, readStatus_requestedDirection_toNat,
      BitVec.toNat_ofBool _, BitVec.toNat_ofBool _, BitVec.toNat_ofBool _⟩,
    by decide, fun e => by cases e <;> rfl⟩

end Sys2Proof.Machine
end

section
/-! PROOFS. The tick service (40_tick_service.md): one TICK (O14), and runs of TICKs, where the countdowns drain (O15) and
a turning motor commutates once per `duration` (O16). -/
namespace Sys2Proof.Machine
variable {s t u : State} {c : Word16} {p : PhaseIndex} {n k : Nat}

/-- The expiry read before the decrement: a count of 1 and a resting count of 0 both run out (40_tick_service.md R92). -/
theorem phaseExpired_countDownTimers_iff :
    phaseExpired (countDownTimers s) ↔ s.phaseCnt.toNat ≤ 1 ∧ s.rotation ≠ 0#16 := by
  have hzero : countDown s.phaseCnt = 0#16 ↔ s.phaseCnt.toNat ≤ 1 := by
    rw [← BitVec.toNat_inj, countDown_toNat, BitVec.toNat_ofNat]
    omega
  exact and_congr_left' hzero

/-- Settles O14: the row of TICK is that of an expiry or that of a mere count. -/
theorem tickCountsAndAdvances : Obligations.TickCountsAndAdvances := by
  intro s
  have hpos : 0 < s.rotation.toNat ↔ s.rotation ≠ 0#16 := by bv_omega
  rw [hpos, ← phaseExpired_countDownTimers_iff]
  by_cases hx : phaseExpired (countDownTimers s)
  · exact ⟨_, (OpRow.tickExpire hx).exec, rfl, countDown_toNat _, absurd hx, fun _ =>
      ⟨rfl, fun hd => hd ▸ nextPhase_right_toNat _, fun hd => hd ▸ nextPhase_left_toNat _⟩⟩
  · exact ⟨_, (OpRow.tickCount hx).exec, rfl, countDown_toNat _, fun _ => ⟨countDown_toNat _, rfl⟩, (absurd · hx)⟩

theorem countDown_iterate_toNat (c : Word16) (n : Nat) : (countDown^[n] c).toNat = c.toNat - n := by
  induction n with
  | zero => rfl
  | succ n ih => rw [Function.iterate_succ_apply', countDown_toNat, ih, Nat.sub_sub]

theorem nextPhase_right_iterate_toNat (p : PhaseIndex) (k : Nat) :
    ((nextPhase .right)^[k + 1] p).toNat = (p.toNat + (1 + k)) % 6 := by
  induction k with
  | zero => exact nextPhase_right_toNat p
  | succ k ih => rw [Function.iterate_succ_apply', nextPhase_right_toNat, ih]; omega

theorem nextPhase_left_iterate_toNat (p : PhaseIndex) (k : Nat) :
    ((nextPhase .left)^[k + 1] p).toNat = (p.toNat + 5 * (1 + k)) % 6 := by
  induction k with
  | zero => exact nextPhase_left_toNat p
  | succ k ih => rw [Function.iterate_succ_apply', nextPhase_left_toNat, ih]; omega

/-! ## Runs of TICKs -/

/-- `n` TICKs take `s` to a phase countdown of `c` and the phase `p`; the debounce countdown drains meanwhile, and
nothing else but the response changes. -/
def TickRun (s : State) (n : Nat) (c : Word16) (p : PhaseIndex) : Prop :=
  ∃ r, execAll (List.replicate n .tick) s =
    .next { s with debounceCnt := countDown^[n] s.debounceCnt, phaseCnt := c, phase := p, resp := r }

theorem execAll_ticks_succ (h : execAll (List.replicate n .tick) s = .next t) (ht : OpRow t .tick u) :
    execAll (List.replicate (n + 1) .tick) s = .next u := by
  rw [List.replicate_succ', execAll_append h, execAll_cons _ ht.exec, execAll]

namespace TickRun

theorem zero (s : State) : TickRun s 0 s.phaseCnt s.phase := ⟨s.resp, rfl⟩

theorem expire (h : TickRun s n c p) (hc : c.toNat ≤ 1) (hr : s.rotation ≠ 0#16) :
    TickRun s (n + 1) s.duration (nextPhase s.direction p) := by
  obtain ⟨r, h⟩ := h
  rw [TickRun, Function.iterate_succ_apply']
  exact ⟨.none, execAll_ticks_succ h (.tickExpire (phaseExpired_countDownTimers_iff.mpr ⟨hc, hr⟩))⟩

theorem count (h : TickRun s n c p) (hc : 1 < c.toNat ∨ s.rotation = 0#16) :
    TickRun s (n + 1) (countDown c) p := by
  obtain ⟨r, h⟩ := h
  rw [TickRun, Function.iterate_succ_apply']
  refine ⟨.none, execAll_ticks_succ h (.tickCount fun hx => ?_)⟩
  obtain ⟨hle, hne⟩ := phaseExpired_countDownTimers_iff.mp hx
  exact hc.elim hle.not_gt hne

theorem exists_counts (s : State) (n : Nat) : ∃ c p, TickRun s n c p := by
  induction n with
  | zero => exact ⟨_, _, zero s⟩
  | succ n ih =>
    obtain ⟨c, p, h⟩ := ih
    by_cases hx : c.toNat ≤ 1 ∧ s.rotation ≠ 0#16
    · exact ⟨_, _, h.expire hx.1 hx.2⟩
    · exact ⟨_, _, h.count (by rwa [not_and_or, not_le, not_not] at hx)⟩

/-- While the count has not run out, or the motor stands still, TICKs only count down. -/
theorem drain (h : TickRun s n c p) (hk : k < max c.toNat 1 ∨ s.rotation = 0#16) :
    TickRun s (n + k) (countDown^[k] c) p := by
  induction k with
  | zero => exact h
  | succ k ih =>
    rw [Function.iterate_succ_apply']
    refine (ih (hk.imp_left (by omega))).count (hk.imp_left fun hk => ?_)
    rw [countDown_iterate_toNat]
    omega

/-- The next expiry comes when the leftover count runs out, at once if it has. -/
theorem drain_expire (h : TickRun s n c p) (hr : s.rotation ≠ 0#16) :
    TickRun s (n + max c.toNat 1) s.duration (nextPhase s.direction p) := by
  obtain ⟨k, hk⟩ : ∃ k, max c.toNat 1 = k + 1 := ⟨max c.toNat 1 - 1, by omega⟩
  rw [hk]
  refine (h.drain (.inl (by omega))).expire ?_ hr
  rw [countDown_iterate_toNat]
  omega

/-- After the first expiry there is one every `duration` TICKs (40_tick_service.md R93). -/
theorem expiries (hr : s.rotation ≠ 0#16) (hd : 0 < s.duration.toNat) (k : Nat) :
    TickRun s (max s.phaseCnt.toNat 1 + k * s.duration.toNat) s.duration
      ((nextPhase s.direction)^[k + 1] s.phase) := by
  induction k with
  | zero => simpa using (zero s).drain_expire hr
  | succ k ih =>
    rw [Function.iterate_succ_apply', Nat.succ_mul, ← Nat.add_assoc]
    simpa [Nat.max_eq_left hd] using ih.drain_expire hr

end TickRun

/-- Settles O15: every run of TICKs drains the debounce countdown, and at standstill the phase countdown as well. -/
theorem countdownsDrainTickByTick : Obligations.CountdownsDrainTickByTick := by
  intro s n
  by_cases h0 : s.rotation = 0#16
  · obtain ⟨r, h⟩ := (TickRun.zero s).drain (k := n) (.inr h0)
    rw [Nat.zero_add] at h
    exact ⟨_, h, countDown_iterate_toNat _ n, fun _ => ⟨countDown_iterate_toNat _ n, rfl⟩⟩
  · obtain ⟨c, p, r, h⟩ := TickRun.exists_counts s n
    exact ⟨_, h, countDown_iterate_toNat _ n, (absurd · h0)⟩

/-- Settles O16: `n` TICKs are a drain before the first expiry, or the expiries whose `duration` has passed and a drain
of what remains. -/
theorem commutationRunsOncePerDuration : Obligations.CommutationRunsOncePerDuration := by
  intro s n hr hd _
  by_cases hn : n < max s.phaseCnt.toNat 1
  · obtain ⟨r, h⟩ := (TickRun.zero s).drain (.inl hn)
    rw [Nat.zero_add] at h
    exact ⟨_, h, rfl, fun _ => ⟨rfl, countDown_iterate_toNat _ n⟩, (absurd hn <| not_lt.mpr ·)⟩
  · have hpos : 0 < s.duration.toNat := by bv_omega
    generalize hm : n - max s.phaseCnt.toNat 1 = m
    have hrest : m % s.duration.toNat < s.duration.toNat := Nat.mod_lt m hpos
    have hsplit : max s.phaseCnt.toNat 1 + m / s.duration.toNat * s.duration.toNat + m % s.duration.toNat = n := by
      rw [Nat.add_assoc, Nat.div_add_mod']
      omega
    obtain ⟨r, h⟩ := (TickRun.expiries hr hpos (m / s.duration.toNat)).drain (.inl (lt_max_of_lt_left hrest))
    rw [hsplit] at h
    exact ⟨_, h, rfl, (absurd · hn), fun _ => ⟨countDown_iterate_toNat _ _,
      fun hdir => hdir ▸ nextPhase_right_iterate_toNat _ _, fun hdir => hdir ▸ nextPhase_left_iterate_toNat _ _⟩⟩

end Sys2Proof.Machine
end

section
/-! PROOFS. OUT and the lines it activates (41_commutation_scheduler.md R102 to R105). -/
namespace Sys2Proof.Machine

/-- Of a turning motor OUTPUT reads the table (R102). -/
theorem output_of_tableEntry {t : CommTable} {ph : PhaseIndex} {rot : Word16} {p : PinPattern} (hr : rot ≠ 0#16)
    (h : tableEntry t ph = some p) : output t ph rot = p := by
  rw [output, if_neg hr, h]

/-- Settles O18: OUT has one row, and OUTPUT is zero at standstill, the entry at `phase`, or zero outside the table. -/
theorem outWritesThePattern : Obligations.OutWritesThePattern := by
  intro s
  have hentry {ph p} (hp : s.phase = ph) (h : tableEntry s.cfg.commTable ph = some p) (hr : s.rotation ≠ 0#16) :
      output s.cfg.commTable s.phase s.rotation = p := output_of_tableEntry hr (hp ▸ h)
  exact ⟨_, OpRow.out.exec, fun h0 => h0 ▸ output_at_standstill _ _, fun hr =>
    ⟨(hentry · rfl hr), (hentry · rfl hr), (hentry · rfl hr), (hentry · rfl hr), (hentry · rfl hr), (hentry · rfl hr),
      output_outside _ _ _⟩⟩

/-- The next entry of the default table keeps one active line and moves the other (R104). -/
theorem default_shares_one_line_right :
    ∀ ph : PhaseIndex, ph.toNat ≤ 5 →
      activeLines (output CommTable.default ph 1#16 &&& output CommTable.default (nextPhase .right ph) 1#16) = 1 := by
  decide

/-- Inside the table a step to the right undoes a step to the left. -/
theorem nextPhase_right_left {ph : PhaseIndex} (h : ph.toNat ≤ 5) : nextPhase .right (nextPhase .left ph) = ph := by
  apply BitVec.eq_of_toNat_eq
  rw [nextPhase_right_toNat, nextPhase_left_toNat]
  omega

/-- Settles O19: OUTPUT is zero or an entry of the legal table; sharing is symmetric, so the neighbour to the left is
the pair of the neighbour to the right read backwards. -/
theorem outActivatesNoneOrTwoLines : Obligations.OutActivatesNoneOrTwoLines := by
  refine ⟨fun s hlegal => ⟨_, OpRow.out.exec, (output_eq_zero_or_mem _ _ _).imp_right (hlegal _)⟩, fun ph d hph => ?_⟩
  cases d with
  | left =>
    have hshare := default_shares_one_line_right (nextPhase .left ph) (nextPhase_le _ ph)
    rwa [nextPhase_right_left hph, BitVec.and_comm] at hshare
  | right => exact default_shares_one_line_right ph hph

end Sys2Proof.Machine
end

section
/-! PROOFS. One pass of the Engine (42_engine.md): the period (O20); STEP in each state (O21 to O25), read off the rows
of the diagram; which edges `state` takes (O26) and where `direction` changes (O27). -/
namespace Sys2Proof.Machine
variable {s t : State} {i : Instr}

/-- Settles O20: the formula is the quotient with its common factor 6 removed. -/
theorem periodIsTheTruncatedQuotient : Obligations.PeriodIsTheTruncatedQuotient := by
  refine ⟨period_zero, fun r hr => ⟨_, period_of_ne_zero r hr, ?_⟩⟩
  have hpos : 0 < r.toNat := by bv_omega
  have hcancel : 60000 / (r.toNat * 6) = 10000 / r.toNat := Nat.mul_div_mul_right 10000 r.toNat (by decide : 0 < 6)
  rw [hcancel, periodFormula_toNat r hr]
  exact ⟨rfl, rfl, Nat.div_pos_iff.trans (and_iff_right hpos)⟩

/-! ## STEP in each state -/

namespace EngineRow

theorem stopRamp_to_standstill (h : s.state = .rotating) (hs : stopTest s) (h1 : s.rotation = 1#16) :
    EngineRow s { s with rotation := 0#16, resp := .none } := by
  simpa [h1] using stopRamp h hs (by simp [h1])

theorem stopRamp_turning (h : s.state = .rotating) (hs : stopTest s) (h1 : 1 < s.rotation.toNat) :
    EngineRow s
      { s with rotation := s.rotation - 1#16, duration := periodFormula (s.rotation - 1#16), resp := .none } := by
  have hne : s.rotation - 1#16 ≠ 0#16 := by bv_omega
  simpa only [if_neg hne] using stopRamp h hs (by bv_omega)

theorem rampDown_to_standstill (h : s.state = .rotating) (hs : ¬ stopTest s) (hn : ¬ newReversal s)
    (hgt : s.requestedRotation < s.rotation) (h1 : s.rotation = 1#16) :
    EngineRow s { s with rotation := 0#16, state := .ready, resp := .none } := by
  simpa [h1] using rampDown h hs hn hgt

theorem rampDown_turning (h : s.state = .rotating) (hs : ¬ stopTest s) (hn : ¬ newReversal s)
    (hgt : s.requestedRotation < s.rotation) (h1 : s.rotation ≠ 1#16) :
    EngineRow s
      { s with
        rotation := s.rotation - 1#16, duration := periodFormula (s.rotation - 1#16), state := .ready,
        resp := .none } := by
  have hne : s.rotation - 1#16 ≠ 0#16 := by bv_omega
  simpa only [if_neg hne] using rampDown h hs hn hgt

end EngineRow

/-- Settles O21: the Init arm is one row; a STEP ends outside Init, and the only other writer of `state` is the trap. -/
theorem stepInInitResetsTheEngine : Obligations.StepInInitResetsTheEngine := by
  refine ⟨fun s h => (EngineRow.init h).exec, fun i s t hexec ht => ?_⟩
  cases exec_cases hexec with
  | step h => simpa [ht] using h.state_cases
  | fsampleTrap => cases ht
  | _ => exact ht

/-- The words in which O22 states the run condition. -/
theorem runCondition_of_pos (hreq : 0 < s.requestedRotation.toNat) (hs : s.started = true) (hf : s.fault = false) :
    runCondition s :=
  ⟨by bv_omega, hs, hf⟩

theorem not_runCondition (h : s.requestedRotation = 0#16 ∨ s.started = false ∨ s.fault = true) :
    ¬ runCondition s := by
  rintro ⟨hreq, hs, hf⟩
  simp [hreq, hs, hf] at h

theorem not_stopTest (hs : s.started = true) (hf : s.fault = false) : ¬ stopTest s := by
  simp [stopTest, hs, hf]

theorem not_newReversal (h : s.requestedDirection = s.direction ∨ s.revLatch = true) : ¬ newReversal s := by
  rintro ⟨hne, hl⟩
  exact h.elim hne (by simp [hl])

/-- Settles O22: each clause is a row of the Ready arm. -/
theorem stepInReady : Obligations.StepInReady := fun _ h =>
  ⟨fun hd hl => (EngineRow.readyCapture h hd hl).exec,
    fun hd hl => (EngineRow.readyAgain h hd hl).exec,
    fun hd hreq hs hf h0 => (EngineRow.readySeed h (not_not_intro hd) (runCondition_of_pos hreq hs hf) h0).exec,
    fun hd hreq hs hf hrot =>
      (EngineRow.readyRun h (not_not_intro hd) (runCondition_of_pos hreq hs hf) (by bv_omega)).exec,
    fun hd hidle => (EngineRow.readyIdle h (not_not_intro hd) (not_runCondition hidle)).exec⟩

/-- Settles O23: each clause is a row of the Rotating arm, the two down-ramps cut at speed 1. -/
theorem stepInRotating : Obligations.StepInRotating := fun s h =>
  ⟨fun hs =>
    ⟨fun h0 => (EngineRow.stopDone h hs h0).exec,
      fun h1 => (EngineRow.stopRamp_to_standstill h hs h1).exec,
      fun h1 => (EngineRow.stopRamp_turning h hs h1).exec⟩,
    fun hstarted hfault =>
      have hs : ¬ stopTest s := not_stopTest hstarted hfault
      ⟨fun hd hl => (EngineRow.rotatingCapture h hs ⟨hd, hl⟩).exec,
        fun hnone =>
          have hn : ¬ newReversal s := not_newReversal hnone
          ⟨fun hlt => (EngineRow.rampUp h hs hn hlt).exec,
            fun hgt h1 => (EngineRow.rampDown_to_standstill h hs hn hgt h1).exec,
            fun hgt h1 => (EngineRow.rampDown_turning h hs hn hgt h1).exec,
            fun he => (EngineRow.steady h hs hn he).exec⟩⟩⟩

/-- Settles O24: the one row of the Stopped arm. -/
theorem stepInStoppedCutsTheDrive : Obligations.StepInStoppedCutsTheDrive :=
  fun _ h => (EngineRow.stopped h).exec

/-- Settles O25: the two rows of the Reversing arm. -/
theorem stepInReversing : Obligations.StepInReversing := fun _ h =>
  ⟨fun h0 => (EngineRow.reversingTarget h h0).exec, fun h0 => (EngineRow.commit h h0).exec⟩

/-! ## The edges of the diagram -/

/-- Settles O26: beside STEP only the trap writes `state`; a row of STEP keeps it or is an edge of the diagram. -/
theorem stateChangesOnlyByTheDiagram : Obligations.StateChangesOnlyByTheDiagram := by
  intro i s t hexec hne
  cases exec_cases hexec with
  | fsampleTrap h0 => exact .inl ⟨rfl, h0, rfl, rfl⟩
  | step h =>
    refine .inr ⟨rfl, ?_⟩
    cases h with
    | init h => exact .inl ⟨h, rfl⟩
    | readyCapture h hd | readyAgain h hd => exact .inr (.inl ⟨h, hd, rfl⟩)
    | readyRun h hd hr h0 => exact .inr (.inr (.inl ⟨h, hd, hr, h0, rfl⟩))
    | stopDone h hs h0 => exact .inr (.inr (.inr (.inl ⟨h, hs, h0, rfl⟩)))
    | rotatingCapture h hs hn => exact .inr (.inr (.inr (.inr (.inl ⟨h, hs, hn, rfl⟩))))
    | rampUp h hs hn hcmp | rampDown h hs hn hcmp =>
      exact .inr (.inr (.inr (.inr (.inr (.inl ⟨h, hs, hn, by bv_omega, rfl⟩)))))
    | stopped h => exact .inr (.inr (.inr (.inr (.inr (.inr (.inl ⟨h, rfl⟩))))))
    | reversingTarget h | commit h => exact .inr (.inr (.inr (.inr (.inr (.inr (.inr ⟨h, rfl⟩))))))
    | readySeed | readyIdle | stopRamp | steady => exact absurd rfl hne
  | _ => exact absurd rfl hne

/-- What becomes of the direction in effect: kept, set to the left by the Init arm, or set by the commit. -/
theorem EngineRow.direction_cases (h : EngineRow s t) :
    t.direction = s.direction ∨ (RunsInitArm s ∧ t.direction = .left) ∨
      (s.state = .reversing ∧ s.rotation = 0#16 ∧ t.direction = s.requestedDirection ∧ t.phase = 0#3) := by
  cases h with
  | init h => exact .inr (.inl ⟨runsInitArm_of_code h, rfl⟩)
  | commit h h0 => exact .inr (.inr ⟨h, h0, rfl, rfl⟩)
  | _ => exact .inl rfl

/-- Settles O27: the one other writer, the Init arm, sets the direction to the left, where the invariant has it. -/
theorem directionChangesOnlyAtTheCommit : Obligations.DirectionChangesOnlyAtTheCommit := by
  intro i s t ⟨_, hnamed, _, _, _, _, _, hinit, _⟩ hexec hne
  cases exec_cases hexec with
  | step h =>
    rcases h.direction_cases with hk | ⟨harm, hleft⟩ | hcommit
    · exact absurd hk hne
    · obtain ⟨-, hd, -⟩ := hinit (hnamed.eq_init harm)
      exact absurd (hleft.trans hd.symm) hne
    · exact ⟨rfl, hcommit⟩
  | _ => exact absurd rfl hne

end Sys2Proof.Machine
end

section
/-! PROOFS. Runs of STEPs (42_engine.md R124, R128): the spin-up (O28), the stop (O29) and the reversal (O30), each by
induction on the speed, which changes by one unit a turn. -/
namespace Sys2Proof.Machine
variable {s t u : State} {m n : Nat}

/-- `n` STEPs take `s` to `t`. -/
def StepRun (n : Nat) (s t : State) : Prop := execAll (List.replicate n .step) s = .next t

/-- A row of the diagram before a run. -/
theorem EngineRow.cons (h : EngineRow s t) (hrun : StepRun n t u) : StepRun (n + 1) s u :=
  (execAll_cons _ h.exec).trans hrun

theorem EngineRow.stepRun (h : EngineRow s t) : StepRun 1 s t := h.cons rfl

theorem StepRun.trans (h : StepRun m s t) (h' : StepRun n t u) : StepRun (m + n) s u := by
  rw [StepRun, List.replicate_add, execAll_append h]
  exact h'

/-! ## Spin-up -/

theorem not_stopTest_of_runCondition (hr : runCondition s) : ¬ stopTest s := by
  obtain ⟨-, hs, hf⟩ := hr
  exact not_stopTest hs hf

/-- One turn of the ramp up: the pass of Ready arms the period, the pass of Rotating takes one unit (R119, R120). -/
theorem spinUp_unit (h : s.state = .ready) (hd : s.requestedDirection = s.direction) (hr : runCondition s)
    (h0 : s.rotation ≠ 0#16) (hlt : s.rotation < s.requestedRotation) :
    StepRun 2 s
      { s with
        state := .ready, rotation := s.rotation + 1#16, duration := periodFormula (s.rotation + 1#16),
        resp := .none } := by
  have hup : EngineRow { s with duration := periodFormula s.rotation, state := .rotating, resp := .none } _ :=
    .rampUp rfl (not_stopTest_of_runCondition hr) (not_newReversal (.inl hd)) hlt
  exact (EngineRow.readyRun h (not_not_intro hd) hr h0).cons hup.stepRun

/-- From Ready at a nonzero speed the ramp up ends in Rotating at the requested speed. -/
theorem spinUp_turning (h : s.state = .ready) (hd : s.requestedDirection = s.direction) (hr : runCondition s)
    (h0 : s.rotation ≠ 0#16) (hn : s.rotation.toNat + n = s.requestedRotation.toNat) :
    StepRun (2 * n + 1) s
      { s with
        state := .rotating, rotation := s.requestedRotation, duration := periodFormula s.requestedRotation,
        resp := .none } := by
  induction n generalizing s with
  | zero =>
    have he : s.rotation = s.requestedRotation := BitVec.eq_of_toNat_eq hn
    simpa only [he] using (EngineRow.readyRun h (not_not_intro hd) hr h0).stepRun
  | succ n ih =>
    have hcount : 2 * (n + 1) + 1 = 2 + (2 * n + 1) := by omega
    rw [hcount]
    exact (spinUp_unit h hd hr h0 (by bv_omega)).trans
      (ih rfl hd hr (by dsimp only; bv_omega) (by dsimp only; bv_omega))

/-- Settles O28: the seed is the first unit, and each further one takes a turn. -/
theorem spinUpTakesTwoStepsPerUnit : Obligations.SpinUpTakesTwoStepsPerUnit := by
  intro s h h0 hd hreq hs hf
  obtain ⟨n, hn⟩ : ∃ n, s.requestedRotation.toNat = n + 1 := ⟨s.requestedRotation.toNat - 1, by bv_omega⟩
  have hr : runCondition s := ⟨hreq, hs, hf⟩
  have hone : (1#16).toNat + n = s.requestedRotation.toNat := (Nat.add_comm 1 n).trans hn.symm
  rw [hn]
  exact (EngineRow.readySeed h (not_not_intro hd) hr h0).cons (spinUp_turning h hd hr (by decide : 1#16 ≠ 0#16) hone)

/-- From Rotating at standstill, where the commit leaves the Engine, the first unit needs no seed. -/
theorem spinUp_after_commit (h : s.state = .rotating) (hd : s.requestedDirection = s.direction) (hr : runCondition s)
    (h0 : s.rotation = 0#16) (hn : s.requestedRotation.toNat = n + 1) :
    StepRun (2 * n + 1 + 1) s
      { s with
        state := .rotating, rotation := s.requestedRotation, duration := periodFormula s.requestedRotation,
        resp := .none } := by
  have hone : s.rotation + 1#16 = 1#16 := by simp [h0]
  have hup := EngineRow.rampUp h (not_stopTest_of_runCondition hr) (not_newReversal (.inl hd)) (by bv_omega)
  exact hup.cons (spinUp_turning rfl hd hr (by simp [hone]) (by simp [hone, hn, Nat.add_comm]))

/-! ## Stop -/

/-- The ramp down leaves the period `d` that it finds, or from a speed above 1 that of speed 1, the last one it writes:
taking the first of `n + 1` units changes nothing in this. -/
theorem rampDown_duration {v : Word16} (d : Word16) (hn : v.toNat = n + 1) :
    (if n ≤ 1 then if v - 1#16 = 0#16 then d else periodFormula (v - 1#16) else 10000#16) =
      if n + 1 ≤ 1 then d else 10000#16 := by
  match n with
  | 0 =>
    have hone : v - 1#16 = 0#16 := by bv_omega
    simp [hone]
  | 1 =>
    have hone : v - 1#16 = 1#16 := by bv_omega
    rw [hone]
    rfl
  | n + 2 => simp

/-- Settles O29: the ramp takes one pass per unit, and at standstill the rows to Stopped and to Ready follow. -/
theorem stopRampsDownAndForgetsTheSpeed : Obligations.StopRampsDownAndForgetsTheSpeed := by
  intro s h hs
  generalize hn : s.rotation.toNat = n
  induction n generalizing s with
  | zero =>
    have h0 : s.rotation = 0#16 := BitVec.eq_of_toNat_eq hn
    exact (EngineRow.stopDone h hs h0).cons (EngineRow.stopped rfl).stepRun
  | succ n ih =>
    rw [← rampDown_duration s.duration hn]
    exact (EngineRow.stopRamp h hs (by bv_omega)).cons (ih _ h hs (by dsimp only; bv_omega))

/-! ## Reversal -/

/-- One turn of the way down to the commit: the passes of Reversing, Rotating and Ready (R122, R120, R119). -/
theorem reversal_unit (h : s.state = .reversing) (hd : directionMismatch s) (hl : s.revLatch = true)
    (hs : s.started = true) (hf : s.fault = false) (h0 : s.rotation ≠ 0#16) :
    StepRun 3 s
      { s with
        state := .reversing, rotation := s.rotation - 1#16, requestedRotation := 0#16,
        duration := if s.rotation - 1#16 = 0#16 then s.duration else periodFormula (s.rotation - 1#16),
        resp := .none } := by
  have hgt : 0#16 < s.rotation := by bv_omega
  have hdown : EngineRow { s with requestedRotation := 0#16, state := .rotating, resp := .none } _ :=
    .rampDown rfl (not_stopTest hs hf) (not_newReversal (.inr hl)) hgt
  exact (EngineRow.reversingTarget h h0).cons (hdown.cons (EngineRow.stepRun (.readyAgain rfl hd hl)))

/-- From Reversing the way down ends in Rotating at standstill, with the reversal committed. -/
theorem reversal_commits (h : s.state = .reversing) (hd : directionMismatch s) (hl : s.revLatch = true)
    (hs : s.started = true) (hf : s.fault = false) (hn : s.rotation.toNat = n) :
    StepRun (3 * n + 1) s
      { s with
        state := .rotating, rotation := 0#16, requestedRotation := s.savedRequestedRotation,
        direction := s.requestedDirection, revLatch := false, duration := if n ≤ 1 then s.duration else 10000#16,
        phase := 0#3, resp := .none } := by
  induction n generalizing s with
  | zero =>
    have h0 : s.rotation = 0#16 := BitVec.eq_of_toNat_eq hn
    simpa [h0, hs] using (EngineRow.commit h h0).stepRun
  | succ n ih =>
    have hcount : 3 * (n + 1) + 1 = 3 + (3 * n + 1) := by omega
    rw [hcount, ← rampDown_duration s.duration hn]
    exact (reversal_unit h hd hl hs hf (by bv_omega)).trans (ih rfl hd hl hs hf (by dsimp only; bv_omega))

/-- Settles O30: one pass for the capture, `3v + 1` down to the commit, and `2v` for the spin-up in the new direction. -/
theorem reversalTakesFiveStepsPerUnitAndTwo : Obligations.ReversalTakesFiveStepsPerUnitAndTwo := by
  intro s b h he h0 hs hf hl _ hb
  obtain ⟨n, hn⟩ : ∃ n, s.rotation.toNat = n + 1 := ⟨s.rotation.toNat - 1, by bv_omega⟩
  have hcount : 5 * (n + 1) + 2 = 3 * (n + 1) + 1 + (2 * n + 1 + 1) + 1 := by omega
  have hcapture : EngineRow { s with requestedDirection := Direction.ofBit b, resp := .none } _ :=
    .rotatingCapture h (not_stopTest hs hf) ⟨hb, hl⟩
  obtain ⟨hreq, hreqn⟩ : s.requestedRotation ≠ 0#16 ∧ s.requestedRotation.toNat = n + 1 := he ▸ ⟨h0, hn⟩
  have hrun := hcapture.cons (.trans (reversal_commits rfl hb rfl hs hf hn)
    (spinUp_after_commit rfl rfl ⟨hreq, hs, hf⟩ rfl hreqn))
  rw [execAll_cons _ (OpRow.setdir b).exec, hn, hcount]
  simpa only [StepRun, ← he, h, hl] using hrun

end Sys2Proof.Machine
end

section
/-! PROOFS. The Debounce Gate (43_debounce_gate.md): KEYIN (O33) and FSAMPLE (O34), and the window that both share, for
every interleaving (O35). -/
namespace Sys2Proof.Machine
variable {s t : State} {i : Instr}

theorem mem_codes_iff {keys : KeyCodes} {k : KeyByte} :
    k ∈ keys.codes ↔
      k = keys.esc ∨ k = keys.ok ∨ k = keys.up ∨ k = keys.down ∨ k = keys.start ∨ k = keys.stop := by
  simp [KeyCodes.codes]

/-- Settles O33: the row of KEYIN is that of an accepted key, or that of a byte the classification or the gate drops. -/
theorem keyinPassesTheGate : Obligations.KeyinPassesTheGate := by
  refine fun k s => ⟨fun hk h0 => ?accepted, fun h0 => ?closed, fun hesc hok hup hdown hstart hstop => ?noKey⟩
  case accepted => exact (OpRow.keyinAccept ⟨mem_codes_iff.mpr hk, h0⟩).exec
  case closed => exact (OpRow.keyinIgnored fun ⟨_, hopen⟩ => h0 hopen).exec
  case noKey =>
    have hk : k ∉ s.cfg.keys.codes := by simp [mem_codes_iff, hesc, hok, hup, hdown, hstart, hstop]
    exact (OpRow.keyinIgnored fun ⟨hmem, _⟩ => hk hmem).exec

/-- Settles O34: the row of FSAMPLE is that of the trap, or that of a sample which is released or falls in the window. -/
theorem fsampleTakesTheFaultTrap : Obligations.FsampleTakesTheFaultTrap := fun _ =>
  ⟨(OpRow.fsampleIgnored (by simp)).exec,
    fun h0 => (OpRow.fsampleIgnored fun ⟨_, hopen⟩ => h0 hopen).exec,
    fun h0 => (OpRow.fsampleTrap h0).exec⟩

/-! ## The shared window -/

/-- With the window open an event of either source is answered, and reloads the window (43_debounce_gate.md R140). -/
theorem OpRow.accepts_event (h : OpRow s i t) (he : carriesEvent s.cfg i = true) (h0 : s.debounceCnt = 0#16) :
    t.resp ≠ .none ∧ t.debounceCnt = s.cfg.debounceMs := by
  cases h with
  | fsampleTrap | keyinAccept => exact ⟨nofun, rfl⟩
  | fsampleIgnored hn => exact absurd ⟨he, h0⟩ hn
  | keyinIgnored hn => exact absurd ⟨of_decide_eq_true he, h0⟩ hn
  | _ => cases he

/-- With the window closed an event of either source changes no register (43_debounce_gate.md R140). -/
theorem OpRow.suppresses_event (h : OpRow s i t) (he : carriesEvent s.cfg i = true) (h0 : s.debounceCnt ≠ 0#16) :
    t = { s with resp := .none } := by
  cases h with
  | fsampleTrap hopen => exact absurd hopen h0
  | keyinAccept hk => exact absurd hk.2 h0
  | fsampleIgnored | keyinIgnored => rfl
  | _ => cases he

/-- Of the operations without an event only TICK moves the window. -/
theorem OpRow.window_without_event (h : OpRow s i t) (he : carriesEvent s.cfg i = false) :
    t.debounceCnt = if i = .tick then countDown s.debounceCnt else s.debounceCnt := by
  cases h with
  | tickExpire | tickCount => rfl
  | step h =>
    obtain ⟨-, hdebounce, -⟩ := h.unwritten
    exact hdebounce
  | fsampleTrap => cases he
  | keyinAccept hk => exact absurd hk.1 (of_decide_eq_false he)
  | _ => rfl

/-- Operations without an event run to an end, and drain the window by one for every TICK among them
(43_debounce_gate.md R145). -/
theorem execAll_drains_window (is : List Instr) (he : ∀ i ∈ is, carriesEvent s.cfg i = false) :
    ∃ t, execAll is s = .next t ∧ t.cfg = s.cfg ∧
      t.debounceCnt.toNat = s.debounceCnt.toNat - is.count .tick := by
  induction is generalizing s with
  | nil => exact ⟨s, rfl, rfl, rfl⟩
  | cons i is ih =>
    obtain ⟨hi, his⟩ := List.forall_mem_cons.mp he
    obtain ⟨u, hu⟩ := exists_opRow i s
    obtain ⟨hcfg, -⟩ := hu.keeps_cfg_and_inputs
    obtain ⟨t, hrun, hcfg', hcnt⟩ := ih (s := u) (hcfg ▸ his)
    refine ⟨t, (execAll_cons is hu.exec).trans hrun, hcfg'.trans hcfg, ?_⟩
    rw [hcnt, hu.window_without_event hi]
    by_cases htick : i = .tick
    · rw [if_pos htick, countDown_toNat, htick, List.count_cons_self, Nat.sub_sub, Nat.add_comm]
    · rw [if_neg htick, List.count_cons_of_ne htick]

/-- Settles O35: the first event loads the window, the operations between drain it by their TICKs, and the second event
meets what is left. -/
theorem debounceWindowHoldsForAnyInterleaving : Obligations.DebounceWindowHoldsForAnyInterleaving := by
  intro s first second between h0 hfirst hsecond hbetween
  obtain ⟨a, ha⟩ := exists_opRow first s
  obtain ⟨hanswered, hloaded⟩ := ha.accepts_event hfirst h0
  obtain ⟨hcfg, -⟩ := ha.keeps_cfg_and_inputs
  obtain ⟨t, hrun, hcfg', hleft⟩ := execAll_drains_window (s := a) between (hcfg ▸ hbetween)
  rw [hloaded] at hleft
  have hcfgt : t.cfg = s.cfg := hcfg'.trans hcfg
  have hsecond' : carriesEvent t.cfg second = true := hcfgt ▸ hsecond
  obtain ⟨u, hu⟩ := exists_opRow second t
  refine ⟨a, t, u, ha.exec, hanswered, hrun, hu.exec, fun hfew => ?suppressed, fun henough => ?accepted⟩
  case suppressed =>
    have hclosed : t.debounceCnt ≠ 0#16 := by bv_omega
    rw [hu.suppresses_event hsecond' hclosed]
    exact ⟨rfl, rfl⟩
  case accepted =>
    have hopen : t.debounceCnt = 0#16 := by bv_omega
    rw [← hcfgt]
    exact hu.accepts_event hsecond' hopen

end Sys2Proof.Machine
end

section
/-! PROOFS. The host commands (44_host_commands.md): the whole effect of each (O38 to O42), and the step on a reserved
word (O9). -/
namespace Sys2Proof.Machine

/-- Settles O38: the one row of NOP. -/
theorem nopChangesNoRegister : Obligations.NopChangesNoRegister := fun _ => OpRow.nop.exec

/-- Settles O39: the one row of START. -/
theorem startSetsTheRunFlag : Obligations.StartSetsTheRunFlag := fun _ => OpRow.start.exec

/-- Settles O40: the one row of STOP. -/
theorem stopClearsTheRunFlagAndTheFault : Obligations.StopClearsTheRunFlagAndTheFault := fun _ => OpRow.stop.exec

/-- SETSPD 0 disables the drive: the floor does not raise it (44_host_commands.md R158). -/
@[simp] theorem clampSpeed_zero (c : Config) : clampSpeed c 0#16 = 0#16 := if_pos rfl

/-- Settles O41: the one row of SETSPD writes the clamped operand. -/
theorem setspdClampsTheRequestedSpeed : Obligations.SetspdClampsTheRequestedSpeed := by
  refine fun v s => ⟨clampSpeed s.cfg v, (OpRow.setspd v).exec, ?zero, clampSpeed_toNat s.cfg v⟩
  case zero =>
    rintro rfl
    exact clampSpeed_zero s.cfg

/-- Settles O42: the one row of SETDIR, at each value of its bit. -/
theorem setdirWritesTheRequestedDirection : Obligations.SetdirWritesTheRequestedDirection := fun _ =>
  ⟨(OpRow.setdir false).exec, (OpRow.setdir true).exec⟩

/-- The step on a presented word that decodes to no operation (30_encoding.md R74). -/
theorem step_of_reserved {s : State} {w : OpWord} {op : BitVec 4} {rest : List Input} (hc : s.cfg.legal)
    (hi : s.inputs = .op w :: rest) (hd : decode w = .reserved op) :
    step s = .next (reservedNoOp { s with inputs := rest }) := by
  rw [step, fetch_of_reserved hc hi hd]

/-- Settles O9: the decoder rejects an opcode of at least 0xA by number, and the step then writes the response alone. -/
theorem reservedWordIsANoOperation : Obligations.ReservedWordIsANoOperation := by
  intro s w rest hc hi hop
  have hd : decode w = .reserved (opcodeOf w) := (DecodeRow.reserved (BitVec.le_def.mp hop)).decode_eq
  exact step_of_reserved hc hi hd

end Sys2Proof.Machine
end

section
/-! PROOFS. The pass of an accepted fault sample (60_exceptions.md R178, 42_engine.md R129): the drive is cut (O36). -/
namespace Sys2Proof.Machine
variable {s t u : State} {i : Instr} {is : List Instr}

/-- A run goes on with an operation and `n` TICKs, which move the countdowns, the phase and the response alone. -/
theorem execAll_append_op_ticks (h : execAll is s = .next t) (hop : OpRow t i u) (n : Nat) :
    ∃ c p r, execAll (is ++ i :: List.replicate n .tick) s =
      .next { u with debounceCnt := countDown^[n] u.debounceCnt, phaseCnt := c, phase := p, resp := r } := by
  obtain ⟨c, p, r, hticks⟩ := TickRun.exists_counts u n
  exact ⟨c, p, r, (execAll_append h).trans ((execAll_cons _ hop.exec).trans hticks)⟩

/-- Settles O36: the trap goes to Stopped and TICKs keep it there, so the STEP takes the one row of the Stopped arm; TICKs
keep the standstill it leaves, and OUT writes the pattern of standstill. -/
theorem acceptedFaultCutsTheDriveInItsPass : Obligations.AcceptedFaultCutsTheDriveInItsPass := by
  intro s n m h0
  have hstart : execAll [] s = .next s := rfl
  obtain ⟨_, _, _, htrap⟩ := execAll_append_op_ticks hstart (.fsampleTrap h0) n
  obtain ⟨_, phase, _, hcut⟩ := execAll_append_op_ticks htrap (.step (.stopped rfl)) m
  have hout := (execAll_append hcut).trans (execAll_cons [] OpRow.out.exec)
  rw [List.append_assoc] at hout
  exact ⟨_, hout, output_at_standstill s.cfg.commTable phase, rfl, rfl, rfl, rfl, rfl, rfl, rfl, rfl⟩

end Sys2Proof.Machine
end

section
/-! PROOFS. Reset and hazards (70_reset_and_hazards.md): a reset (O11), the absence of a final state (O12), the first
STEP after a reset (O44), a STOP during a reversal (O31), and a direction request at standstill (O32). -/
namespace Sys2Proof.Machine
variable {s t : State} {i : Instr}

/-! ## The step of a legal block -/

/-- The step on a presented reset (R195, R196). -/
theorem step_of_reset {rest : List Input} (hc : s.cfg.legal) (hi : s.inputs = .reset :: rest) :
    step s = .next { State.resetFor s.cfg with inputs := rest } := by
  rw [step, fetch_of_reset hc hi]

/-- The step with nothing presented. -/
theorem step_of_nothing (hc : s.cfg.legal) (hi : s.inputs = []) : step s = .next s := by
  rw [step, fetch_of_nothing hc hi]

/-- Settles O11: the fetch of a reset builds the reset state. -/
theorem resetInputLeavesTheResetState : Obligations.ResetInputLeavesTheResetState :=
  fun _ _ => step_of_reset

/-- Every operation runs to the end and keeps the configuration and what is presented. -/
theorem exec_next (i : Instr) (s : State) : ∃ t, exec i s = .next t ∧ t.cfg = s.cfg ∧ t.inputs = s.inputs := by
  obtain ⟨t, ht⟩ := exists_opRow i s
  exact ⟨t, ht.exec, ht.keeps_cfg_and_inputs⟩

/-- An operation run in the state with another stream keeps the configuration too. -/
theorem exec_next_withInputs (i : Instr) (s : State) (ins : List Input) :
    ∃ t, exec i { s with inputs := ins } = .next t ∧ t.cfg = s.cfg := by
  obtain ⟨t, ht, hcfg, -⟩ := exec_next i { s with inputs := ins }
  exact ⟨t, ht, hcfg⟩

/-- Whatever is presented to a legal block, the step has a next state with the same configuration. -/
theorem step_next (hc : s.cfg.legal) : ∃ t, step s = .next t ∧ t.cfg = s.cfg := by
  cases hi : s.inputs with
  | nil => exact ⟨s, step_of_nothing hc hi, rfl⟩
  | cons p rest =>
    cases p with
    | op w =>
      cases hd : decode w with
      | op i =>
        rw [step_of_op hc hi hd]
        exact exec_next_withInputs i s rest
      | reserved op => exact ⟨_, step_of_reserved hc hi hd, rfl⟩
    | withTick w =>
      rw [step_of_withTick hc hi]
      exact exec_next_withInputs .tick s (.op w :: rest)
    | reset => exact ⟨_, step_of_reset hc hi, rfl⟩

/-- Settles O12: an operation has a row in every state, and a step of a legal block runs one or does less. -/
theorem noOperationHaltsTheBlock : Obligations.NoOperationHaltsTheBlock :=
  ⟨exec_next, fun _ => step_next⟩

/-! ## The first STEP after a reset -/

/-- Beside the response a menu command writes at most the four registers of the user's intent (44_host_commands.md
R162). -/
theorem OpRow.writes_of_menuCommand (h : OpRow s i t) (hm : isMenuCommand i = true) :
    ∃ req dir run flt,
      t = { s with
            requestedRotation := req, requestedDirection := dir, started := run, fault := flt, resp := .none } := by
  cases h with
  | nop | start | stop | setspd | setdir => exact ⟨_, _, _, _, rfl⟩
  | _ => cases hm

/-- Nor does a list of menu commands write other registers. -/
theorem execAll_menuCommands (early : List Instr) (hm : ∀ i ∈ early, isMenuCommand i = true) (s : State) :
    ∃ req dir run flt r, execAll early s = .next
      { s with requestedRotation := req, requestedDirection := dir, started := run, fault := flt, resp := r } := by
  induction early generalizing s with
  | nil => exact ⟨_, _, _, _, _, rfl⟩
  | cons i rest ih =>
    obtain ⟨hi, hrest⟩ := List.forall_mem_cons.mp hm
    obtain ⟨t, ht⟩ := exists_opRow i s
    obtain ⟨_, _, _, _, rfl⟩ := ht.writes_of_menuCommand hi
    obtain ⟨_, _, _, _, _, hrun⟩ := ih hrest _
    exact ⟨_, _, _, _, _, (execAll_cons rest ht.exec).trans hrun⟩

/-- Settles O44: menu commands keep the Engine in Init, whose arm clears every register that they write. -/
theorem firstStepDiscardsEarlyCommands : Obligations.FirstStepDiscardsEarlyCommands := by
  intro c early hm
  obtain ⟨_, _, _, _, _, hearly⟩ := execAll_menuCommands early hm (State.resetFor c)
  rw [execAll_append hearly]
  exact (EngineRow.init (.inl rfl)).stepRun

/-! ## Hazards of a reversal -/

/-- A pass into Reversing at standstill, and the pass of the commit (42_engine.md R122). -/
theorem EngineRow.then_commit (h : EngineRow s t) (ht : t.state = .reversing) (h0 : t.rotation = 0#16) :
    StepRun 2 s
      { t with
        state := .rotating, direction := t.requestedDirection, requestedRotation := t.savedRequestedRotation,
        started := true, revLatch := false, phase := 0#3, resp := .none } :=
  h.cons (EngineRow.commit ht h0).stepRun

/-- From Ready at standstill a reversal in progress commits in two passes (42_engine.md R119, R122). -/
theorem readyAgain_commits (h : s.state = .ready) (hd : directionMismatch s) (hl : s.revLatch = true)
    (h0 : s.rotation = 0#16) :
    StepRun 2 s
      { s with
        state := .rotating, direction := s.requestedDirection, requestedRotation := s.savedRequestedRotation,
        started := true, revLatch := false, phase := 0#3, resp := .none } :=
  (EngineRow.readyAgain h hd hl).then_commit rfl h0

/-- Settles O31: after STOP the ramp down ends in Ready at standstill (O29), with the latch and the directions as they
were, so the reversal commits. -/
theorem stopDuringAReversalDoesNotHold : Obligations.StopDuringAReversalDoesNotHold := by
  intro s h hl hd
  have hstopped : StepRun (s.rotation.toNat + 2) { s with started := false, fault := false, resp := .none } _ :=
    stopRampsDownAndForgetsTheSpeed _ h (.inl rfl)
  rw [execAll_cons _ OpRow.stop.exec]
  exact hstopped.trans (readyAgain_commits rfl hd hl rfl)

/-- Settles O32: the first pass captures the requested speed, and at standstill the second commits. -/
theorem directionRequestAtStandstillStarts : Obligations.DirectionRequestAtStandstillStarts := by
  intro s b h h0 hl hb
  have hcapture : EngineRow { s with requestedDirection := Direction.ofBit b, resp := .none } _ :=
    .readyCapture h hb hl
  have hrun := hcapture.then_commit rfl h0
  rw [execAll_cons _ (OpRow.setdir b).exec]
  change StepRun 2 _ _
  simpa only [hl] using hrun

end Sys2Proof.Machine
end

section
/-! PROOFS. The decoding vectors (O1) (95_test_vectors.md 2.1). -/
namespace Sys2Proof

/-- Settles O1: each vector is an opcode followed by an argument, whose bits in the format of that opcode are the
operand named. -/
theorem vectorWordsDecode : Obligations.VectorWordsDecode :=
  ⟨decode_append .nop (usedBits_z 0x0000#16), decode_append .tick (usedBits_z 0xABCD#16),
    decode_append .step (usedBits_z 0xFFFF#16), decode_append .out (usedBits_z 0x0000#16),
    decode_append (.fsample true) (usedBits_b 0x0003#16), decode_append (.fsample false) (usedBits_b 0xFFFE#16),
    decode_append (.keyin 0x40#8) (usedBits_k 0xFF40#16), decode_append .start (usedBits_z 0x0000#16),
    decode_append .stop (usedBits_z 0x0000#16), decode_append (.setspd 20#16) (usedBits_w 0x0014#16),
    decode_append (.setdir true) (usedBits_b 0x0001#16), decode_append_reserved (op := 0xB#4) 0x1234#16 (by decide)⟩

end Sys2Proof
end
